-- ==== Sys2Proof/Word.lean ====
section
/-! DEFINITION. The part's plainest words: bytes, link characters and channel numbers. -/

namespace Sys2Proof

/-- A byte of a frame or of a link character. -/
abbrev Byte := BitVec 8

/-- A link character as it stands on a lane (R191). Bit 0 is the start bit, bits 1 to 8 are the data
bits 0 to 7, bit 9 is the marker, bit 10 is the parity bit and bit 11 is the stop bit. -/
abbrev Character := BitVec 12

/-- A channel number, 0 to 63 (0.6). -/
abbrev Channel := Fin 64

end Sys2Proof
end

