-- ==== Sys2Proof/Config.lean ====
section
/-! DEFINITION. The fixed sizes of the part. No value of this part is left open by the spec, so there
is no free value here. -/

namespace Sys2Proof.Config

/-- The timebase counts modulo 2^48 (R1). -/
def timebaseSpan : Nat := 2 ^ 48

/-- The low ticks count modulo 2^32 (R1). -/
def lowSpan : Nat := 2 ^ 32

/-- Ticks of CHRST activity (R19). -/
def restartTicks : Nat := 5120

/-- Ticks of the settle interval (R20). -/
def settleTicks : Nat := 2 ^ 20

/-- Capacity of the Staging FIFO (R17). -/
def fifoCapacity : Nat := 32

/-- Capacity of the Open Event Set (R23). -/
def openCapacity : Nat := 4

/-- Most members of one event (R27). -/
def memberCapacity : Nat := 8

/-- Capacity of the Event Queue (R35). -/
def queueCapacity : Nat := 64

/-- Slots of the Source Table (R82). -/
def tableCapacity : Nat := 1024

/-- Slots visited in one slice (R132). -/
def sliceSlots : Nat := 16

/-- Most passes owed (R129). -/
def backlogLimit : Nat := 15

/-- Most records in one SCAN or CHANGES response (R189, R190). -/
def responseRecords : Nat := 6

/-- The read code of the Command Port (R192). -/
def readCode : Byte := 0x5A

/-- Ticks a link character takes at 4 Mbit/s (1.2). -/
def characterTicks : Nat := 30

/-- Ticks an annunciator frame of 33 characters takes (10.3). -/
def frameTicks : Nat := 990

end Sys2Proof.Config
end

