-- ==== Sys2Proof/Syntax.lean ====
section
/-! DEFINITION. The commands of the part: one constructor of `Instr` for each row of the opcode table. -/

namespace Sys2Proof

/-- The two hit lanes, HLA and HLB (Table 0-2). -/
inductive Lane where
  | a | b
deriving DecidableEq, Repr

/-- A request frame after its code byte (R192, Table 12-3): the flags byte, the payload length that the
header declares, and the payload bytes received after the header. -/
structure Frame where
  flags : Byte
  length : Byte
  payload : List Byte
deriving DecidableEq, Repr

/-- The geometry parameters (Table 3-2). -/
inductive GeometryParam where
  | length | circ | cell
  | ringPos (r : Fin 16)
  | colPos (k : Fin 16)
deriving DecidableEq, Repr

/-- The parameters of Table 11-4. -/
inductive Param where
  | geometry (g : GeometryParam)
  | vel | w | settle
  | minDuration | maxDuration | maxRise
  | zonalFold
  | holdBand | holdSamples | unloadDelta | reloadDelta | ruptureDrop | ruptureFloor | sampleTimeout
  | confirm | highAmp | highAmpLimit | holdLimit | felicityLimit
  | actHigh | retireIdle | sweepInterval
  | policy | starveLimit | lockLimit
  | annEnable | annPeriod
deriving DecidableEq, Repr

/-- A read frame on the SPI lines (R177): how many complete bytes it clocks, the read code among them; and
whether a request frame is taken at the moment of its completion, and before it (R179, log entry 25). -/
structure ReadFrame where
  bytes : Nat
  overtaken : Bool
deriving DecidableEq, Repr

/-- The commands and events of the part, in the order of the opcode table. A constructor's docstring
gives its row's rule. -/
inductive Instr where
  /-- RESETn is asserted (R1). -/
  | reset
  /-- RESETn is released (R1). -/
  | resetnRelease
  /-- The tick on which the low ticks wrap to zero (R2). -/
  | lowTicksWrap
  /-- A good header taken on a hit lane (R6). -/
  | hitLaneHeader (lane : Lane) (ch : Character)
  /-- A good data character taken on a hit lane (R7). -/
  | hitLaneDataCharacter (lane : Lane) (ch : Character)
  /-- A character that fails the character check, taken on a hit lane (R9). -/
  | hitLaneCharacterError (lane : Lane) (ch : Character)
  /-- The Merge serves a holding slot (R16). -/
  | mergeServe
  /-- The restart count reaches its end (R19). -/
  | restartCountExpiry
  /-- The settle count reaches its end (R20). -/
  | settleCountExpiry
  /-- The Event Former takes and places a descriptor (R24). -/
  | hitPlacement
  /-- The timebase reaches the expiry of an open event (R33). -/
  | eventExpiry
  /-- A good header taken on PLIN (R65). -/
  | plinHeader (ch : Character)
  /-- A good data character taken on PLIN (R65). -/
  | plinDataCharacter (ch : Character)
  /-- A character that fails the character check, taken on PLIN (R66). -/
  | plinCharacterError (ch : Character)
  /-- The sample timeout expires (R68). -/
  | sampleTimeoutExpiry
  /-- The sweep timer expires (R128). -/
  | sweepTimerExpiry
  /-- A grant to FOLD (R106). -/
  | fold
  /-- A grant to SWEEP (R132). -/
  | sweepSlice
  /-- A grant to PORT (R144). -/
  | portGrant
  /-- The operation in progress completes (R144). -/
  | operationCompletion
  /-- The requested drain ends (R160). -/
  | requestedDrainEnd
  /-- The rupture drain ends (R164). -/
  | ruptureDrainEnd
  /-- The table lock expires (R151). -/
  | lockExpiry
  /-- An annunciator frame starts (R173). -/
  | annunciatorFrameStart
  /-- A read frame (R177). -/
  | responseRead (r : ReadFrame)
  /-- Request code 0x01 (R182). -/
  | status (f : Frame)
  /-- Request code 0x02 (R184). -/
  | counters (f : Frame)
  /-- Request code 0x03 (R185). -/
  | configRead (f : Frame)
  /-- Request code 0x04 of a parameter with no behaviour of its own (R185). -/
  | configWrite (f : Frame)
  /-- Request code 0x04 of a geometry parameter (R166). -/
  | geometryWrite (flags : Byte) (g : GeometryParam) (value : BitVec 16)
  /-- Request code 0x04 of SAMPLE_TIMEOUT (R69). -/
  | sampleTimeoutWrite (flags : Byte) (value : BitVec 16)
  /-- Request code 0x04 of LOCK_LIMIT (R151). -/
  | lockLimitWrite (flags : Byte) (value : BitVec 16)
  /-- Request code 0x04 of ANN_ENABLE (R174). -/
  | annEnableWrite (flags : Byte) (value : BitVec 16)
  /-- Request code 0x05 (R186). -/
  | sensorRead (f : Frame)
  /-- Request code 0x06 (R186). -/
  | sensorWrite (f : Frame)
  /-- Request code 0x10 (R157). -/
  | start (f : Frame)
  /-- Request code 0x11 (R158). -/
  | stop (f : Frame)
  /-- Request code 0x12 (R159). -/
  | freeze (f : Frame)
  /-- Request code 0x13 (R162). -/
  | thaw (f : Frame)
  /-- Request code 0x14 (R165). -/
  | engineReset (f : Frame)
  /-- Request code 0x15 (R19). -/
  | restartChannels (f : Frame)
  /-- Request code 0x16 (R181). -/
  | setView (f : Frame)
  /-- Request code 0x20 (R102). -/
  | lookup (f : Frame)
  /-- Request code 0x21 (R189). -/
  | scan (f : Frame)
  /-- Request code 0x22 (R190). -/
  | changes (f : Frame)
  /-- Request code 0x23 (R96). -/
  | seed (f : Frame)
  /-- Request code 0x24 (R121). -/
  | mark (f : Frame)
  /-- Request code 0x25 (R125). -/
  | clearStats (f : Frame)
  /-- Request code 0x26 (R98). -/
  | retire (f : Frame)
  /-- A request frame whose code is no request code, or that is shorter than a header (R176); its bytes. -/
  | unknownRequestCode (bytes : List Byte)
deriving DecidableEq, Repr

end Sys2Proof
end

