-- ==== Sys2Proof/Machine/Operands.lean ====
section
/-! DEFINITION. How the operands of commands are read: link characters (R4, R191), request frames
(R192, R193), parameter codes (Table 12-7), and whole numbers as bytes. -/

namespace Sys2Proof.Machine

/-! ### Whole numbers as bytes, least significant byte first (0.5.3) -/

/-- The number whose bytes, least significant first, are those of the list. -/
def bytesToNat : List Byte → Nat
  | [] => 0
  | b :: rest => b.toNat + 256 * bytesToNat rest

/-- The `count` low bytes of a number, least significant first. -/
def natToBytes : (count : Nat) → Nat → List Byte
  | 0, _ => []
  | count + 1, n => BitVec.ofNat 8 n :: natToBytes count (n / 256)

/-! ### Bytes on the SPI lines -/

/-- The bits of a byte in the order in which it is clocked, most significant bit first (R192). -/
def byteBits (b : Byte) : List Bool :=
  [b.getLsbD 7, b.getLsbD 6, b.getLsbD 5, b.getLsbD 4, b.getLsbD 3, b.getLsbD 2, b.getLsbD 1, b.getLsbD 0]

/-- The complete bytes of the bits clocked in one frame, most significant bit first; bits after the last
complete byte are discarded (R176, R192). -/
def bytesOfBits : List Bool → List Byte
  | b7 :: b6 :: b5 :: b4 :: b3 :: b2 :: b1 :: b0 :: rest =>
    BitVec.ofNat 8
      (128 * b7.toNat + 64 * b6.toNat + 32 * b5.toNat + 16 * b4.toNat + 8 * b3.toNat + 4 * b2.toNat +
        2 * b1.toNat + b0.toNat) :: bytesOfBits rest
  | _ => []

/-! ### Link characters -/

/-- The data byte of a link character (R191). -/
def characterData (ch : Character) : Byte := ch.extractLsb' 1 8

/-- The marker: set in a header, clear in a data character (1.2, R191). -/
def characterMarker (ch : Character) : Bool := ch.getLsbD 9

/-- How many of the data bits, the marker and the parity bit are one. -/
def characterOnes (ch : Character) : Nat :=
  ((List.range 10).filter fun i => ch.getLsbD (i + 1)).length

/-- The character check (R4): odd parity over the data byte, the marker and the parity bit, and a stop
bit of 1. -/
def characterGood (ch : Character) : Bool :=
  characterOnes ch % 2 == 1 && ch.getLsbD 11

/-- How many bits of a byte are one. -/
def byteOnes (b : Byte) : Nat := ((List.range 8).filter fun i => b.getLsbD i).length

/-- The character a sender makes of a data byte and a marker (R191): start bit 0, odd parity, stop bit 1. -/
def makeCharacter (marker : Bool) (data : Byte) : Character :=
  let parity : Nat := (byteOnes data + marker.toNat + 1) % 2
  BitVec.ofNat 12 (2 * data.toNat + 512 * marker.toNat + 1024 * parity + 2048)

/-- The characters that the bits of a line hold (R4), a start bit recognised at the first 0 of an idle line and
again at the first 0 after a stop bit. Bits of 1 between them deliver nothing, and a character whose 12 bits are
not all sampled is not taken. -/
def lineCharacters : List Bool → List Character
  | true :: rest => lineCharacters rest
  | false :: b1 :: b2 :: b3 :: b4 :: b5 :: b6 :: b7 :: b8 :: b9 :: b10 :: b11 :: rest =>
    BitVec.ofNat 12
      (2 * b1.toNat + 4 * b2.toNat + 8 * b3.toNat + 16 * b4.toNat + 32 * b5.toNat + 64 * b6.toNat +
        128 * b7.toNat + 256 * b8.toNat + 512 * b9.toNat + 1024 * b10.toNat + 2048 * b11.toNat) ::
      lineCharacters rest
  | _ => []

/-- What a receiver hands to its frame handling (R4): nothing where no start bit of 0 is seen. -/
inductive Reception where
  | idle
  | header (data : Byte)
  | data (data : Byte)
  | error
deriving DecidableEq, Repr

/-- The reception of 12 bits (R4): without a start bit of 0 the line is idle and delivers nothing; a character
that fails the check is an error, and another is a header or a data character according to its marker. -/
def receive (ch : Character) : Reception :=
  if ch.getLsbD 0 then .idle
  else if characterGood ch then
    if characterMarker ch then .header (characterData ch) else .data (characterData ch)
  else .error

/-- The kinds of a header on the input lanes (Table 12-1). -/
inductive HeaderKind where
  | hit | fault | unused | pressure
deriving DecidableEq, Repr

/-- Bits 7..6 of a header byte (Table 12-1). -/
def headerKind (b : Byte) : HeaderKind :=
  if b.getLsbD 7 then
    if b.getLsbD 6 then .pressure else .unused
  else
    if b.getLsbD 6 then .fault else .hit

/-- Bits 5..0 of a header byte (Table 12-1). -/
def headerChannel (b : Byte) : Channel := (b.extractLsb' 0 6).toFin

/-! ### Request frames -/

end Sys2Proof.Machine

namespace Sys2Proof

/-- Flags bit 0 (Table 12-3). -/
def Frame.hold (f : Frame) : Bool := f.flags.getLsbD 0

/-- Flags bit 1 (Table 12-3). -/
def Frame.long (f : Frame) : Bool := f.flags.getLsbD 1

/-- Flags bit 2 (Table 12-3). -/
def Frame.clear (f : Frame) : Bool := f.flags.getLsbD 2

/-- Byte `i` of the payload, as a number. -/
def Frame.byteAt (f : Frame) (i : Nat) : Nat := (f.payload.getD i 0).toNat

/-- The bytes of a cell reference in the form LONG selects (R193). -/
def Frame.refBytes (f : Frame) : Nat := if f.long then 2 else 1

end Sys2Proof

namespace Sys2Proof.Machine

/-- The required payload length of a request code in the form LONG selects (Table 12-5); none for a
code that is no request code. -/
def requestLength (code : Nat) (long : Bool) : Option Nat :=
  let ref := if long then 2 else 1
  match code with
  | 0x01 => some 0
  | 0x02 => some 0
  | 0x03 => some 1
  | 0x04 => some 3
  | 0x05 => some 1
  | 0x06 => some 4
  | 0x10 => some 0
  | 0x11 => some 0
  | 0x12 => some 0
  | 0x13 => some 0
  | 0x14 => some 0
  | 0x15 => some 0
  | 0x16 => some ref
  | 0x20 => some ref
  | 0x21 => some (ref + 2)
  | 0x22 => some 0
  | 0x23 => some (ref + 3)
  | 0x24 => some (ref + 1)
  | 0x25 => some ref
  | 0x26 => some ref
  | _ => none

/-- The form check of a frame with a request code (R176): the declared length is the number of payload
bytes received and the length the code requires. -/
def formOk (code : Nat) (f : Frame) : Bool :=
  f.length.toNat == f.payload.length && requestLength code f.long == some f.payload.length

/-- The code of a geometry parameter (Table 12-7). -/
def geometryCode : GeometryParam → Nat
  | .length => 0x01
  | .circ => 0x02
  | .cell => 0x03
  | .ringPos r => 0x20 + r.val
  | .colPos k => 0x30 + k.val

/-- The code of a parameter (Table 12-7). -/
def paramCode : Param → Nat
  | .geometry g => geometryCode g
  | .vel => 0x04
  | .w => 0x05
  | .settle => 0x06
  | .minDuration => 0x07
  | .maxDuration => 0x08
  | .maxRise => 0x09
  | .zonalFold => 0x0A
  | .holdBand => 0x0B
  | .holdSamples => 0x0C
  | .unloadDelta => 0x0D
  | .reloadDelta => 0x0E
  | .ruptureDrop => 0x0F
  | .ruptureFloor => 0x10
  | .sampleTimeout => 0x11
  | .confirm => 0x12
  | .highAmp => 0x13
  | .highAmpLimit => 0x14
  | .holdLimit => 0x15
  | .felicityLimit => 0x16
  | .actHigh => 0x17
  | .retireIdle => 0x18
  | .sweepInterval => 0x19
  | .policy => 0x1A
  | .starveLimit => 0x1B
  | .lockLimit => 0x1C
  | .annEnable => 0x1D
  | .annPeriod => 0x1E

/-- The parameter that a code names (Table 12-7); none where it names none. -/
def paramOfCode (n : Nat) : Option Param :=
  match n with
  | 0x01 => some (.geometry .length)
  | 0x02 => some (.geometry .circ)
  | 0x03 => some (.geometry .cell)
  | 0x04 => some .vel
  | 0x05 => some .w
  | 0x06 => some .settle
  | 0x07 => some .minDuration
  | 0x08 => some .maxDuration
  | 0x09 => some .maxRise
  | 0x0A => some .zonalFold
  | 0x0B => some .holdBand
  | 0x0C => some .holdSamples
  | 0x0D => some .unloadDelta
  | 0x0E => some .reloadDelta
  | 0x0F => some .ruptureDrop
  | 0x10 => some .ruptureFloor
  | 0x11 => some .sampleTimeout
  | 0x12 => some .confirm
  | 0x13 => some .highAmp
  | 0x14 => some .highAmpLimit
  | 0x15 => some .holdLimit
  | 0x16 => some .felicityLimit
  | 0x17 => some .actHigh
  | 0x18 => some .retireIdle
  | 0x19 => some .sweepInterval
  | 0x1A => some .policy
  | 0x1B => some .starveLimit
  | 0x1C => some .lockLimit
  | 0x1D => some .annEnable
  | 0x1E => some .annPeriod
  | n =>
    if n / 16 = 2 then some (.geometry (.ringPos (Fin.ofNat 16 n)))
    else if n / 16 = 3 then some (.geometry (.colPos (Fin.ofNat 16 n)))
    else none

/-- The frame of a CONFIG WRITE of one parameter (Table 12-5, code 0x04). -/
def configFrame (flags : Byte) (p : Param) (value : BitVec 16) : Frame :=
  { flags := flags
    length := 3
    payload := BitVec.ofNat 8 (paramCode p) :: natToBytes 2 value.toNat }

end Sys2Proof.Machine
end

