-- ==== Sys2Proof/WellFormed.lean ====
section
/-! DEFINITION. Which terms of `Instr` stand for a command the part can meet. -/

namespace Sys2Proof

/-- Whether a CONFIG WRITE frame is that of a row of its own: a geometry write, or a write of
SAMPLE_TIMEOUT, LOCK_LIMIT or ANN_ENABLE. -/
def ownWriteRow (f : Frame) : Bool :=
  Machine.formOk 0x04 f &&
    match Machine.paramOfCode (f.byteAt 0) with
    | some (.geometry _) => true
    | some .sampleTimeout => true
    | some .lockLimit => true
    | some .annEnable => true
    | _ => false

/-- The checks of a command: a received character starts with a start bit of 0 (R191) and is of the
kind its row names (R4); a read frame holds its read code (R192); a CONFIG WRITE is of a parameter
with no row of its own; the bytes of an unknown frame start with neither the read code nor, where the
header is whole, a request code (R176). -/
def Instr.WellFormed : Instr → Bool
  | .hitLaneHeader _ ch => !ch.getLsbD 0 && Machine.characterGood ch && Machine.characterMarker ch
  | .hitLaneDataCharacter _ ch => !ch.getLsbD 0 && Machine.characterGood ch && !Machine.characterMarker ch
  | .hitLaneCharacterError _ ch => !ch.getLsbD 0 && !Machine.characterGood ch
  | .plinHeader ch => !ch.getLsbD 0 && Machine.characterGood ch && Machine.characterMarker ch
  | .plinDataCharacter ch => !ch.getLsbD 0 && Machine.characterGood ch && !Machine.characterMarker ch
  | .plinCharacterError ch => !ch.getLsbD 0 && !Machine.characterGood ch
  | .responseRead r => 1 ≤ r.bytes
  | .configWrite f => !ownWriteRow f
  | .unknownRequestCode bytes =>
    match bytes with
    | [] => false
    | code :: rest =>
      code != Config.readCode &&
        (rest.length < 2 || (Machine.requestLength code.toNat true).isNone)
  | .reset | .resetnRelease | .lowTicksWrap | .mergeServe | .restartCountExpiry | .settleCountExpiry
  | .hitPlacement | .eventExpiry | .sampleTimeoutExpiry | .sweepTimerExpiry | .fold | .sweepSlice
  | .portGrant | .operationCompletion | .requestedDrainEnd | .ruptureDrainEnd | .lockExpiry
  | .annunciatorFrameStart | .status _ | .counters _ | .configRead _ | .geometryWrite _ _ _
  | .sampleTimeoutWrite _ _ | .lockLimitWrite _ _ | .annEnableWrite _ _ | .sensorRead _
  | .sensorWrite _ | .start _ | .stop _ | .freeze _ | .thaw _ | .engineReset _
  | .restartChannels _ | .setView _ | .lookup _ | .scan _ | .changes _ | .seed _ | .mark _
  | .clearStats _ | .retire _ => true

end Sys2Proof
end

