-- ==== Sys2Proof/Decode.lean ====
section
/-! DEFINITION. Which command a table word, a link character or the bytes of an SPI frame spell. -/

namespace Sys2Proof

/-- The opcode table gives none of its rows any bits, so no word spells a command. -/
def decodeTableWord (_nbits _w : Nat) : Option Instr := none

/-- The command that a character taken on a hit lane is (R4); none for 12 bits without a start bit of 0. -/
def decodeHitCharacter (lane : Lane) (ch : Character) : Option Instr :=
  match Machine.receive ch with
  | .idle => none
  | .header _ => some (.hitLaneHeader lane ch)
  | .data _ => some (.hitLaneDataCharacter lane ch)
  | .error => some (.hitLaneCharacterError lane ch)

/-- The command that a character taken on PLIN is (R4, R65); none for 12 bits without a start bit of 0. -/
def decodePlinCharacter (ch : Character) : Option Instr :=
  match Machine.receive ch with
  | .idle => none
  | .header _ => some (.plinHeader ch)
  | .data _ => some (.plinDataCharacter ch)
  | .error => some (.plinCharacterError ch)

/-- The commands that the bits of a hit lane deliver (R4). -/
def decodeHitLine (lane : Lane) (bits : List Bool) : List Instr :=
  (Machine.lineCharacters bits).filterMap (decodeHitCharacter lane)

/-- The commands that the bits of PLIN deliver (R4, R65). -/
def decodePlinLine (bits : List Bool) : List Instr :=
  (Machine.lineCharacters bits).filterMap decodePlinCharacter

/-- The row of a CONFIG WRITE frame: a row of its own where the parameter has one, else CONFIG_WRITE. -/
def decodeConfigWrite (f : Frame) : Instr :=
  let value := BitVec.ofNat 16 (Machine.bytesToNat (f.payload.drop 1))
  if Machine.formOk 0x04 f then
    match Machine.paramOfCode (f.byteAt 0) with
    | some (.geometry g) => .geometryWrite f.flags g value
    | some .sampleTimeout => .sampleTimeoutWrite f.flags value
    | some .lockLimit => .lockLimitWrite f.flags value
    | some .annEnable => .annEnableWrite f.flags value
    | _ => .configWrite f
  else .configWrite f

/-- The command of a request code (Table 12-5). -/
def decodeRequest (code : Nat) (f : Frame) : Option Instr :=
  match code with
  | 0x01 => some (.status f)
  | 0x02 => some (.counters f)
  | 0x03 => some (.configRead f)
  | 0x04 => some (decodeConfigWrite f)
  | 0x05 => some (.sensorRead f)
  | 0x06 => some (.sensorWrite f)
  | 0x10 => some (.start f)
  | 0x11 => some (.stop f)
  | 0x12 => some (.freeze f)
  | 0x13 => some (.thaw f)
  | 0x14 => some (.engineReset f)
  | 0x15 => some (.restartChannels f)
  | 0x16 => some (.setView f)
  | 0x20 => some (.lookup f)
  | 0x21 => some (.scan f)
  | 0x22 => some (.changes f)
  | 0x23 => some (.seed f)
  | 0x24 => some (.mark f)
  | 0x25 => some (.clearStats f)
  | 0x26 => some (.retire f)
  | _ => none

/-- The command that the bytes of one SPI frame are (R176, R192): none for a frame with no complete
byte, a read frame for the read code, else a request frame. -/
def decodeFrame (bytes : List Byte) : Option Instr :=
  match bytes with
  | [] => none
  | code :: rest =>
    if code = Config.readCode then some (.responseRead { bytes := bytes.length, overtaken := false })
    else
      match rest with
      | flags :: length :: payload =>
        some ((decodeRequest code.toNat { flags, length, payload }).getD (.unknownRequestCode bytes))
      | _ => some (.unknownRequestCode bytes)

/-- The command that the bits clocked on SDI in one SPI frame are (R176, R192). -/
def decodeBits (bits : List Bool) : Option Instr := decodeFrame (Machine.bytesOfBits bits)

/-- The bytes of a request frame with a code (Table 12-3). -/
def frameBytes (code : Byte) (f : Frame) : List Byte := code :: f.flags :: f.length :: f.payload

/-- The bytes of the SPI frame of a port command (Table 12-5); none for a command that is no SPI frame, or
two (a read frame overtaken by a request frame). -/
def encodeFrame : Instr → Option (List Byte)
  | .responseRead r =>
    if r.overtaken then none else some (Config.readCode :: List.replicate (r.bytes - 1) 0xFF)
  | .status f => some (frameBytes 0x01 f)
  | .counters f => some (frameBytes 0x02 f)
  | .configRead f => some (frameBytes 0x03 f)
  | .configWrite f => some (frameBytes 0x04 f)
  | .geometryWrite flags g v => some (frameBytes 0x04 (Machine.configFrame flags (.geometry g) v))
  | .sampleTimeoutWrite flags v => some (frameBytes 0x04 (Machine.configFrame flags .sampleTimeout v))
  | .lockLimitWrite flags v => some (frameBytes 0x04 (Machine.configFrame flags .lockLimit v))
  | .annEnableWrite flags v => some (frameBytes 0x04 (Machine.configFrame flags .annEnable v))
  | .sensorRead f => some (frameBytes 0x05 f)
  | .sensorWrite f => some (frameBytes 0x06 f)
  | .start f => some (frameBytes 0x10 f)
  | .stop f => some (frameBytes 0x11 f)
  | .freeze f => some (frameBytes 0x12 f)
  | .thaw f => some (frameBytes 0x13 f)
  | .engineReset f => some (frameBytes 0x14 f)
  | .restartChannels f => some (frameBytes 0x15 f)
  | .setView f => some (frameBytes 0x16 f)
  | .lookup f => some (frameBytes 0x20 f)
  | .scan f => some (frameBytes 0x21 f)
  | .changes f => some (frameBytes 0x22 f)
  | .seed f => some (frameBytes 0x23 f)
  | .mark f => some (frameBytes 0x24 f)
  | .clearStats f => some (frameBytes 0x25 f)
  | .retire f => some (frameBytes 0x26 f)
  | .unknownRequestCode bytes => some bytes
  | .reset | .resetnRelease | .lowTicksWrap | .hitLaneHeader _ _ | .hitLaneDataCharacter _ _
  | .hitLaneCharacterError _ _ | .mergeServe | .restartCountExpiry | .settleCountExpiry
  | .hitPlacement | .eventExpiry | .plinHeader _ | .plinDataCharacter _ | .plinCharacterError _
  | .sampleTimeoutExpiry | .sweepTimerExpiry | .fold | .sweepSlice | .portGrant
  | .operationCompletion | .requestedDrainEnd | .ruptureDrainEnd | .lockExpiry
  | .annunciatorFrameStart => none

end Sys2Proof
end

