-- ==== Sys2Proof/Machine/State.lean ====
section
/-! DEFINITION. The state of the part as plain data, the reasons a step can stop, and the state after
RESET. -/

namespace Sys2Proof.Machine

/-! ### Stops -/

/-- Reasons the part stops. It has no constructor: the spec gives every command of every state an
effect, an answer or a count, so nothing raises a fault. -/
inductive Fault
deriving DecidableEq, Repr

/-- Reasons the model has no meaning for a command. -/
inductive Refusal where
  /-- A command with no meaning yet, by its mnemonic. No command of this model raises it. Safe: a run
  that stops proves nothing of the hardware. -/
  | notModelled (mnemonic : String)
deriving DecidableEq, Repr

/-! ### Hit Intake (chapter 1) -/

/-- The two kinds of frame a hit lane assembles (1.3). -/
inductive FrameKind where
  | hit | fault
deriving DecidableEq, Repr

/-- A frame in progress on a hit lane (1.3): kind, channel, and the data bytes received, in order. -/
structure LaneFrame where
  kind : FrameKind
  channel : Channel
  bytes : List Byte
deriving DecidableEq, Repr

/-- The receive state of a hit lane (Table 1-1). The frame in progress exists in ACCEPTING alone. -/
inductive LaneState where
  | closed | settling | hunting
  | accepting (frame : LaneFrame)
  | ignoring
deriving DecidableEq, Repr

/-- A hit descriptor (1.5). -/
structure Descriptor where
  channel : Channel
  /-- The full 48-bit time in ticks (R13). -/
  time : Nat
  /-- In dB, 0 to 100 (R15). -/
  amplitude : Nat
  energy : Nat
  /-- In microseconds. -/
  duration : Nat
  /-- In microseconds. -/
  riseTime : Nat
deriving DecidableEq, Repr

/-- A hit lane: its receiver, its holding slot and its counters (R8, R16, Table 1-3). -/
structure LaneReceiver where
  state : LaneState
  slot : Option Descriptor
  linkErrors : Nat
  fragments : Nat
  foreigns : Nat
  malformeds : Nat
deriving DecidableEq, Repr

/-- The FAULTED flag of a channel and its fault code (1.4). -/
structure ChannelFault where
  faulted : Bool
  code : Byte
deriving DecidableEq, Repr

/-- The settle phase of the intake (1.7). -/
inductive SettlePhase where
  | restart | settle | done
deriving DecidableEq, Repr

/-- The Hit Intake (chapter 1). -/
structure Intake where
  laneA : LaneReceiver
  laneB : LaneReceiver
  /-- The Merge's last-served memory (R16). -/
  lastServed : Lane
  /-- The Staging FIFO, head first (R17). -/
  fifo : List Descriptor
  faults : Vector ChannelFault 64
  phase : SettlePhase
  restartCount : Nat
  settleCount : Nat
  timeFaults : Nat
  noises : Nat
  overruns : Nat
  hitsStaged : Nat
deriving DecidableEq, Repr

/-! ### Event Former (chapter 2) -/

/-- The phase of the Pressure Monitor (Table 4-1). -/
inductive PressurePhase where
  | noPressure | loading | holding | unloading
deriving DecidableEq, Repr

/-- A pressure context (R76): pressure in 0.1 bar where present, phase, cycle index, hold index, prior peak. -/
structure Context where
  pressure : Option Nat
  phase : PressurePhase
  cycle : Nat
  hold : Nat
  priorPeak : Nat
deriving DecidableEq, Repr

/-- An open event (Table 2-1). Its members are `first` and then `rest`, in the order of the member list;
its first-hit time is the time of `first`. Its opening order is its place in the Open Event Set. -/
structure OpenEvent where
  first : Descriptor
  rest : List Descriptor
  expiry : Nat
  context : Context
  early : Bool
deriving DecidableEq, Repr

/-- A cell key (0.5.2). -/
structure CellKey where
  axial : Nat
  circ : Nat
deriving DecidableEq, Repr

/-- The quality of a location (R61). -/
inductive Quality where
  | full | axial | circ | zonal
deriving DecidableEq, Repr

/-- A located event (Table 2-2). -/
structure LocatedEvent where
  firstHit : Nat
  channel : Channel
  members : Nat
  quality : Quality
  z : Nat
  x : Nat
  cell : CellKey
  amplitude : Nat
  energy : Nat
  context : Context
  early : Bool
  held : Bool
deriving DecidableEq, Repr

/-- The Event Former (chapter 2). -/
structure Former where
  /-- The Open Event Set, the earliest opened first (R23). -/
  openSet : List OpenEvent
  /-- The Event Queue, head first (2.5). -/
  queue : List LocatedEvent
  postRuptures : Nat
  excesses : Nat
  lates : Nat
  earlies : Nat
  aborteds : Nat
  formed : Nat
  eventDrops : Nat
  zonals : Nat
deriving DecidableEq, Repr

/-! ### Pressure Monitor and PLIN (chapter 4) -/

/-- The receive state of PLIN (R65), with the data bytes received in ACCEPTING. -/
inductive PlinState where
  | hunting
  | accepting (bytes : List Byte)
  | ignoring
deriving DecidableEq, Repr

/-- The PLIN receiver (4.1). -/
structure Plin where
  state : PlinState
  linkErrors : Nat
  fragments : Nat
  malformeds : Nat
deriving DecidableEq, Repr

/-- The Pressure Monitor (Table 4-1). The rupture latch is set exactly when the cutoff is present, so
one field holds both. -/
structure Monitor where
  current : Option Nat
  stamp : Nat
  phase : PressurePhase
  cycle : Nat
  cyclePeak : Nat
  priorPeak : Nat
  trough : Nat
  holdRef : Nat
  holdCount : Nat
  holdIndex : Nat
  cutoff : Option Nat
deriving DecidableEq, Repr

/-! ### Source Table (chapter 5) -/

/-- The met-set of a record (R118). -/
structure MetSet where
  felicity : Bool
  hold : Bool
  activity : Bool
  intensity : Bool
deriving DecidableEq, Repr

/-- A Source Record (Table 5-1). Its channel list is `home` and then `others`. -/
structure SourceRecord where
  key : CellKey
  /-- TRACKED when set, NASCENT when clear (R85). -/
  tracked : Bool
  muted : Bool
  pinned : Bool
  seeded : Bool
  label : Option Nat
  home : Channel
  others : List Channel
  events : Nat
  fulls : Nat
  energySum : Nat
  peakAmplitude : Nat
  highAmps : Nat
  firstTime : Option Nat
  lastTime : Option Nat
  firstPressure : Option Nat
  onsetCycle : Nat
  onsetPressure : Option Nat
  felicity : Option Nat
  holdSeen : Nat
  holdCurrent : Nat
  holdTotal : Nat
  activity : Nat
  /-- Events since sweep, E. -/
  sinceSweep : Nat
  idleSweeps : Nat
  met : MetSet
  grade : Nat
  report : Bool
deriving DecidableEq, Repr

/-- The Source Table (R82, R105). `slots` lists the taken slots with their records, slot numbers rising;
a slot that is not listed is free. -/
structure SourceTable where
  slots : List (Nat × SourceRecord)
  unplaced : Nat
  autoRetired : Nat
  evicted : Nat
deriving DecidableEq, Repr

/-! ### Sweep Scheduler (chapter 7) -/

/-- A running timer: ticks elapsed since it was loaded, and the interval it was loaded with. -/
structure Timer where
  elapsed : Nat
  interval : Nat
deriving DecidableEq, Repr

/-- The Sweep Scheduler (Table 7-1). A stopped timer is absent. -/
structure Sweep where
  timer : Option Timer
  backlog : Nat
  pass : Bool
  cursor : Nat
  lost : Nat
deriving DecidableEq, Repr

/-! ### Table Arbiter (chapter 8) -/

/-- The requesters of the Source Table (R143). -/
inductive Requester where
  | port | fold | sweep
deriving DecidableEq, Repr

/-- The operation in progress (R144), with what R154 asks for while it runs: what is still shown of the
state before it (live count, report count, whether it took an Event Queue entry), and what its completion
will do: lower the backlog for a pass that it ended, and count an event it left unplaced, a record it evicted
and the records it retired. Log entry 8. -/
structure Operation where
  requester : Requester
  liveBefore : Nat
  reportBefore : Nat
  tookEntry : Bool
  endsPass : Bool
  unplaced : Bool
  evicted : Bool
  autoRetired : Nat
deriving DecidableEq, Repr

/-- The Table Arbiter (Table 8-1). -/
structure Arbiter where
  operation : Option Operation
  /-- The recency order, most recently granted first. -/
  recency : List Requester
  starvation : Nat
  locked : Bool
  acquired : Nat
  /-- A forced release that waits for the completion of the PORT operation in progress (R151). -/
  breaking : Bool
  lockLost : Bool
deriving DecidableEq, Repr

/-! ### Run Control (chapter 9) -/

/-- The run state. -/
inductive RunState where
  | setup | listening | freezing | frozen
deriving DecidableEq, Repr

/-- The freeze flavour. -/
inductive Flavour where
  | requested | rupture
deriving DecidableEq, Repr

/-- Run Control (R156). The held-mark boundary follows from both fields. -/
structure RunControl where
  state : RunState
  flavour : Option Flavour
deriving DecidableEq, Repr

/-! ### Zone Map and Annunciator Lane (chapter 10) -/

/-- A zone entry (Table 10-1). -/
structure Zone where
  live : Nat
  building : Nat
  unlocated : Nat
deriving DecidableEq, Repr

/-- A frame being sent on ANOUT: its characters and the ticks since its start (R173). -/
structure Sending where
  characters : List Character
  ticks : Nat
deriving DecidableEq, Repr

/-- The Annunciator Lane (R173, R174). The period timer is absent while ANN_ENABLE is 0. -/
structure Annunciator where
  timer : Option Timer
  sending : Option Sending
deriving DecidableEq, Repr

/-! ### Command Port (chapter 11) -/

/-- The status latches (Table 11-2). -/
structure Latches where
  rupture : Bool
  frozenReached : Bool
  tableFull : Bool
  queueDrop : Bool
  sweepLost : Bool
  lockBroken : Bool
  pressureStale : Bool
  linkError : Bool
deriving DecidableEq, Repr

/-- The parameters (Table 11-4). -/
structure Params where
  length : Nat
  circ : Nat
  cell : Nat
  ringPos : Vector Nat 16
  colPos : Vector Nat 16
  vel : Nat
  w : Nat
  settle : Nat
  minDuration : Nat
  maxDuration : Nat
  maxRise : Nat
  zonalFold : Nat
  holdBand : Nat
  holdSamples : Nat
  unloadDelta : Nat
  reloadDelta : Nat
  ruptureDrop : Nat
  ruptureFloor : Nat
  sampleTimeout : Nat
  confirm : Nat
  highAmp : Nat
  highAmpLimit : Nat
  holdLimit : Nat
  felicityLimit : Nat
  actHigh : Nat
  retireIdle : Nat
  sweepInterval : Nat
  policy : Nat
  starveLimit : Nat
  lockLimit : Nat
  annEnable : Nat
  annPeriod : Nat
deriving DecidableEq, Repr

/-- An entry of the sensor map (3.2). -/
structure Sensor where
  ring : Fin 16
  column : Fin 16
  enabled : Bool
deriving DecidableEq, Repr

/-- The status of a response (Table 12-6). -/
inductive Status where
  | ok | adjusted | ignored | notFound | exists | full | state | outOfGrid | conflict | badRequest
deriving DecidableEq, Repr

/-- What STATUS reports (R182, Table 12-10). -/
structure StatusReport where
  run : RunState
  flavour : Option Flavour
  laneA : LaneState
  laneB : LaneState
  locked : Bool
  cutoff : Option Nat
  phase : PressurePhase
  pressure : Option Nat
  cycle : Nat
  liveCount : Nat
  reportCount : Nat
  backlog : Nat
  queueDepth : Nat
  latches : Latches
deriving DecidableEq, Repr

/-- The payload of a response, by its fields (Table 12-8). -/
inductive Payload where
  | none
  | status (report : StatusReport)
  | counters (values : List Nat)
  | config (p : Param) (value : Nat)
  | sensor (channel : Channel) (entry : Sensor) (fault : ChannelFault)
  | view (base : CellKey)
  | record (r : SourceRecord)
  | scan (records : List SourceRecord) (more : Bool) (continuation : Option CellKey)
  | changes (records : List SourceRecord) (more : Bool)
deriving DecidableEq, Repr

/-- A pending response (R176). Its COLLIDED flag is the collision flag at the read (R178). -/
structure Response where
  status : Status
  lockLost : Bool
  payload : Payload
deriving DecidableEq, Repr

/-- The action of MARK on one flag (6.8). -/
inductive MarkAction where
  | keep | set | clear
deriving DecidableEq, Repr

/-- The table work of a port request (R143). -/
inductive TableWork where
  | lookup (key : CellKey)
  | scan (start : CellKey) (minGrade : Nat) (nascent : Bool)
  | changes
  | seed (key : CellKey) (label : Nat) (home : Channel)
  | mark (key : CellKey) (muted pinned : MarkAction)
  | clearStats (key : CellKey)
  | retire (key : CellKey)
  | geometry (g : GeometryParam) (value : Nat)
  | sensor (channel : Channel) (entry : Sensor)
deriving DecidableEq, Repr

/-- How far the request in progress has come: it waits for its grant; it was granted, and its operation
is in progress with this answer; or it is a STOP or ENGINE RESET that waits for a fold or slice (R154). -/
inductive RequestStage where
  | waiting (work : TableWork)
  | granted (status : Status) (payload : Payload)
  | stop
  | engineReset
deriving DecidableEq, Repr

/-- The request in progress (Table 11-1), with its HOLD flag. -/
structure PortRequest where
  hold : Bool
  stage : RequestStage
deriving DecidableEq, Repr

/-- The Command Port (Table 11-1), but for configuration and latches. -/
structure Port where
  request : Option PortRequest
  response : Option Response
  collision : Bool
  view : CellKey
  /-- The bytes clocked out on SDO during the last frame (R176, R177). -/
  sdo : List Byte
deriving DecidableEq, Repr

/-! ### The whole part -/

/-- The state of the part. -/
structure State where
  /-- The commands that wait, first in, first out. The model's own. -/
  pending : List Instr
  /-- RESETn is asserted (R1). -/
  resetAsserted : Bool
  /-- The timebase in ticks, 0 to 2^48 - 1: epoch in the upper 16 bits, low ticks in the lower 32 (R1). -/
  now : Nat
  /-- The level of TBMARK (R2). -/
  tbmark : Bool
  intake : Intake
  former : Former
  plin : Plin
  monitor : Monitor
  table : SourceTable
  sweep : Sweep
  arbiter : Arbiter
  run : RunControl
  zones : Vector Zone 64
  annunciator : Annunciator
  port : Port
  latches : Latches
  params : Params
  sensors : Vector Sensor 64
deriving DecidableEq, Repr

/-! ### After RESET -/

/-- A hit lane after RESET: SETTLING, its slot empty, its counters 0 (R5, R18, R22). -/
def LaneReceiver.reset : LaneReceiver :=
  { state := .settling, slot := none, linkErrors := 0, fragments := 0, foreigns := 0, malformeds := 0 }

/-- The intake after RESET (R10, R16 to R22). The restart count 0 is a DESIGN CHOICE (log entry 14). -/
def Intake.reset : Intake :=
  { laneA := LaneReceiver.reset, laneB := LaneReceiver.reset, lastServed := .b, fifo := []
    faults := Vector.replicate 64 { faulted := false, code := 0 }
    phase := .settle, restartCount := 0, settleCount := 0
    timeFaults := 0, noises := 0, overruns := 0, hitsStaged := 0 }

/-- The Event Former after RESET (R44). -/
def Former.reset : Former :=
  { openSet := [], queue := [], postRuptures := 0, excesses := 0, lates := 0, earlies := 0
    aborteds := 0, formed := 0, eventDrops := 0, zonals := 0 }

/-- The PLIN receiver after RESET (R65, R66). -/
def Plin.reset : Plin := { state := .hunting, linkErrors := 0, fragments := 0, malformeds := 0 }

/-- The Pressure Monitor after RESET (Table 4-1, R79). -/
def Monitor.reset : Monitor :=
  { current := none, stamp := 0, phase := .noPressure, cycle := 1, cyclePeak := 0, priorPeak := 0
    trough := 0, holdRef := 0, holdCount := 0, holdIndex := 0, cutoff := none }

/-- The Source Table after RESET (R82, R105). -/
def SourceTable.reset : SourceTable := { slots := [], unplaced := 0, autoRetired := 0, evicted := 0 }

/-- The Sweep Scheduler after RESET (Table 7-1). -/
def Sweep.reset : Sweep := { timer := none, backlog := 0, pass := false, cursor := 0, lost := 0 }

/-- The Table Arbiter after RESET (Table 8-1). -/
def Arbiter.reset : Arbiter :=
  { operation := none, recency := [.fold, .sweep, .port], starvation := 0, locked := false
    acquired := 0, breaking := false, lockLost := false }

/-- Run Control after RESET (R156). -/
def RunControl.reset : RunControl := { state := .setup, flavour := none }

/-- The Annunciator Lane after RESET: the timer starts from 0 with the period of 200,000 ticks (R173). -/
def Annunciator.reset : Annunciator :=
  { timer := some { elapsed := 0, interval := 200000 }, sending := none }

/-- The status latches after RESET (Table 11-1). -/
def Latches.reset : Latches :=
  { rupture := false, frozenReached := false, tableFull := false, queueDrop := false
    sweepLost := false, lockBroken := false, pressureStale := false, linkError := false }

/-- The Command Port after RESET (Table 11-1). The empty SDO record is a DESIGN CHOICE (log entry 14). -/
def Port.reset : Port :=
  { request := none, response := none, collision := false, view := { axial := 0, circ := 0 }, sdo := [] }

/-- The parameters after RESET (Table 11-4). -/
def Params.reset : Params :=
  { length := 6000, circ := 3770, cell := 100
    ringPos := Vector.replicate 16 0, colPos := Vector.replicate 16 0
    vel := 307, w := 2000, settle := 20000, minDuration := 4, maxDuration := 20000, maxRise := 150
    zonalFold := 0, holdBand := 5, holdSamples := 2000, unloadDelta := 50, reloadDelta := 20
    ruptureDrop := 500, ruptureFloor := 1000, sampleTimeout := 200, confirm := 3, highAmp := 80
    highAmpLimit := 5, holdLimit := 3, felicityLimit := 950, actHigh := 160, retireIdle := 32
    sweepInterval := 1000, policy := 0, starveLimit := 8, lockLimit := 100, annEnable := 1
    annPeriod := 200 }

/-- The part right after RESET, RESETn released (R1). -/
def State.reset : State :=
  { pending := []
    resetAsserted := false
    now := 0
    tbmark := false
    intake := Intake.reset
    former := Former.reset
    plin := Plin.reset
    monitor := Monitor.reset
    table := SourceTable.reset
    sweep := Sweep.reset
    arbiter := Arbiter.reset
    run := RunControl.reset
    zones := Vector.replicate 64 { live := 0, building := 0, unlocated := 0 }
    annunciator := Annunciator.reset
    port := Port.reset
    latches := Latches.reset
    params := Params.reset
    sensors := Vector.replicate 64 { ring := 0, column := 0, enabled := false } }

end Sys2Proof.Machine
end

