-- ==== Sys2Proof/Machine/Flags.lean ====
section
/-! DEFINITION. Saturating counters (0.5.3) and status latches (Table 11-2). -/

namespace Sys2Proof.Machine

/-- An addition to a field that stops at its stated maximum (0.5.3). -/
def satAdd (max n k : Nat) : Nat := min max (n + k)

/-- An increment of a field that stops at its stated maximum (0.5.3). -/
def satInc (max n : Nat) : Nat := satAdd max n 1

/-- An increment of a 16-bit saturating counter (R22, R45, R66, R105, R142). -/
def bump (n : Nat) : Nat := satInc 65535 n

/-- Whether any latch is set (R183). -/
def Latches.any (l : Latches) : Bool :=
  l.rupture || l.frozenReached || l.tableFull || l.queueDrop || l.sweepLost || l.lockBroken ||
    l.pressureStale || l.linkError

/-- The latches that stay set after a STATUS that reported `shown` (R182). -/
def Latches.clearShown (l shown : Latches) : Latches :=
  { rupture := l.rupture && !shown.rupture
    frozenReached := l.frozenReached && !shown.frozenReached
    tableFull := l.tableFull && !shown.tableFull
    queueDrop := l.queueDrop && !shown.queueDrop
    sweepLost := l.sweepLost && !shown.sweepLost
    lockBroken := l.lockBroken && !shown.lockBroken
    pressureStale := l.pressureStale && !shown.pressureStale
    linkError := l.linkError && !shown.linkError }

/-- How many criteria a met-set holds (R118). -/
def MetSet.count (m : MetSet) : Nat :=
  m.felicity.toNat + m.hold.toNat + m.activity.toNat + m.intensity.toNat

/-- The empty met-set. -/
def MetSet.empty : MetSet := { felicity := false, hold := false, activity := false, intensity := false }

end Sys2Proof.Machine
end

