-- ==== Sys2Proof/Machine/Ops.lean ====
section
/-! DEFINITION. The operations that the commands share: updates of one block, the lanes, the accept map,
latches, the zone raises, the completion of a port request and the release of the table lock. -/

namespace Sys2Proof.Machine

/-! ### Updates of one block -/

/-- The state with its intake changed. -/
def State.updIntake (s : State) (f : Intake → Intake) : State := { s with intake := f s.intake }

/-- The state with its Event Former changed. -/
def State.updFormer (s : State) (f : Former → Former) : State := { s with former := f s.former }

/-- The state with its PLIN receiver changed. -/
def State.updPlin (s : State) (f : Plin → Plin) : State := { s with plin := f s.plin }

/-- The state with its Pressure Monitor changed. -/
def State.updMonitor (s : State) (f : Monitor → Monitor) : State := { s with monitor := f s.monitor }

/-- The state with its Source Table changed. -/
def State.updTable (s : State) (f : SourceTable → SourceTable) : State := { s with table := f s.table }

/-- The state with its Sweep Scheduler changed. -/
def State.updSweep (s : State) (f : Sweep → Sweep) : State := { s with sweep := f s.sweep }

/-- The state with its Table Arbiter changed. -/
def State.updArbiter (s : State) (f : Arbiter → Arbiter) : State := { s with arbiter := f s.arbiter }

/-- The state with the operation in progress changed. -/
def State.updOperation (s : State) (f : Operation → Operation) : State :=
  s.updArbiter fun a => { a with operation := a.operation.map f }

/-- The state with its Command Port changed. -/
def State.updPort (s : State) (f : Port → Port) : State := { s with port := f s.port }

/-- The state with its status latches changed. -/
def State.updLatches (s : State) (f : Latches → Latches) : State := { s with latches := f s.latches }

/-- The state with every zone entry changed. -/
def State.mapZones (s : State) (f : Zone → Zone) : State := { s with zones := s.zones.map f }

/-- The state with one zone entry changed. -/
def State.updZone (s : State) (c : Channel) (f : Zone → Zone) : State :=
  { s with zones := s.zones.set c (f s.zones[c]) }

/-- The outcome of a command on a part that is not held in reset; while RESETn is asserted every block
stays in its after-RESET state (R1, log entry 4). -/
def whileReleased (s t : State) : Host.Outcome State Fault Refusal :=
  if s.resetAsserted then .next s else .next t

/-! ### Arithmetic -/

/-- The remainder of `a - b` by `m`, also for a negative difference (0.5.3). -/
def modSub (a b m : Nat) : Nat := (((a : Int) - (b : Int)) % (m : Int)).toNat

/-- The difference of two numbers taken without sign. -/
def absDiff (a b : Nat) : Nat := (a - b) + (b - a)

/-- The quotient rounded up. -/
def ceilDiv (a b : Nat) : Nat := (a + b - 1) / b

/-- The value in the range, or its nearer end. -/
def clamp (lo hi v : Nat) : Nat := max lo (min hi v)

/-- The ticks since a stamp, across the full wrap of the timebase (R68, R151). -/
def State.elapsedSince (s : State) (stamp : Nat) : Nat := modSub s.now stamp Config.timebaseSpan

/-! ### Lanes and channels -/

/-- The receiver of a lane. -/
def Intake.lane (i : Intake) : Lane → LaneReceiver
  | .a => i.laneA
  | .b => i.laneB

/-- The intake with the receiver of one lane changed. -/
def Intake.updLane (i : Intake) (l : Lane) (f : LaneReceiver → LaneReceiver) : Intake :=
  match l with
  | .a => { i with laneA := f i.laneA }
  | .b => { i with laneB := f i.laneB }

/-- The state with the receiver of one lane changed. -/
def State.updLane (s : State) (l : Lane) (f : LaneReceiver → LaneReceiver) : State :=
  s.updIntake fun i => i.updLane l f

/-- The state with one lane in a receive state. -/
def State.setLaneState (s : State) (l : Lane) (st : LaneState) : State :=
  s.updLane l fun r => { r with state := st }

/-- The accept map (R10): enabled in the sensor map and not FAULTED. -/
def State.accepted (s : State) (c : Channel) : Bool :=
  s.sensors[c].enabled && !s.intake.faults[c].faulted

/-- No channel FAULTED, every fault code 0. -/
def noFaults : Vector ChannelFault 64 := Vector.replicate 64 { faulted := false, code := 0 }

/-- The intake with the Staging FIFO and both holding slots emptied (R18). -/
def Intake.emptyPath (i : Intake) : Intake :=
  { i with
    fifo := []
    laneA := { i.laneA with slot := none }
    laneB := { i.laneB with slot := none } }

/-! ### Latches -/

/-- The LINK_ERROR latch set (R9, R66). -/
def State.latchLinkError (s : State) : State := s.updLatches fun l => { l with linkError := true }

/-- The QUEUE_DROP latch set (R17, R35). -/
def State.latchQueueDrop (s : State) : State := s.updLatches fun l => { l with queueDrop := true }

/-! ### Zones -/

/-- A raise of a zone to a grade (R170): live and building grade, each where lower. -/
def State.raiseZone (s : State) (c : Channel) (g : Nat) : State :=
  s.updZone c fun z => { z with live := max z.live g, building := max z.building g }

/-! ### Run state -/

/-- The held-mark boundary is in force (R36). -/
def State.boundary (s : State) : Bool :=
  (s.run.state == .freezing || s.run.state == .frozen) && s.run.flavour == some .requested

/-- A fold or slice is in progress (R160, R164). -/
def State.backgroundBusy (s : State) : Bool :=
  match s.arbiter.operation with
  | some op => op.requester == .fold || op.requester == .sweep
  | none => false

/-- The condition of the requested drain (R160). -/
def State.requestedDrained (s : State) : Bool :=
  s.former.queue.all (·.held) && s.sweep.backlog == 0 && !s.sweep.pass && !s.backgroundBusy

/-- The condition of the rupture drain (R164). -/
def State.ruptureDrained (s : State) : Bool :=
  s.former.queue.isEmpty && s.former.openSet.isEmpty && s.sweep.backlog == 0 && !s.sweep.pass &&
    !s.backgroundBusy

/-- The entry to FROZEN, the flavour kept (R167). -/
def State.enterFrozen (s : State) : State :=
  { s with
    run := { s.run with state := .frozen }
    latches := { s.latches with frozenReached := true } }

/-- The test of the requested drain (R160). -/
def State.testRequestedDrain (s : State) : State :=
  if s.run.state = .freezing ∧ s.run.flavour = some .requested ∧ s.requestedDrained then
    s.enterFrozen
  else s

/-- The test of the rupture drain (R164). -/
def State.testRuptureDrain (s : State) : State :=
  if s.run.state = .freezing ∧ s.run.flavour = some .rupture ∧ s.ruptureDrained then
    s.enterFrozen
  else s

/-- The sweep timer loaded (R128): elapsed 0, and SWEEP_INTERVAL as it stands. -/
def State.loadSweepTimer (s : State) : State :=
  s.updSweep fun w => { w with timer := some { elapsed := 0, interval := s.params.sweepInterval * 10000 } }

/-- The sweep timer stopped (R128). -/
def State.stopSweepTimer (s : State) : State := s.updSweep fun w => { w with timer := none }

/-- The sweep abandoned (R139): backlog 0, no pass, cursor 0, every building grade 0. -/
def State.abandonSweep (s : State) : State :=
  (s.updSweep fun w => { w with backlog := 0, pass := false, cursor := 0 }).mapZones
    fun z => { z with building := 0 }

/-- Every open event discarded and counted ABORTED (R41 to R43). -/
def State.abortOpenEvents (s : State) : State :=
  s.updFormer fun f => { f with openSet := [], aborteds := satAdd 65535 f.aborteds f.openSet.length }

/-! ### The table lock and the port's answers -/

/-- The ordinary release of the lock (R150, R152): no latch and no LOCK_LOST. -/
def State.releaseLock (s : State) : State :=
  s.updArbiter fun a => { a with locked := false, breaking := false }

/-- A forced release of the lock (R151): LOCK_BROKEN set, LOCK_LOST pending. -/
def State.forceRelease (s : State) : State :=
  (s.updArbiter fun a => { a with locked := false, breaking := false, lockLost := true }).updLatches
    fun l => { l with lockBroken := true }

/-- The lock is held and has lasted LOCK_LIMIT or longer (R151), and its release is not waiting already. -/
def State.lockExpired (s : State) : Bool :=
  s.arbiter.locked && !s.arbiter.breaking &&
    decide (s.params.lockLimit * 1000 ≤ s.elapsedSince s.arbiter.acquired)

/-- The expiry of the lock (R151): released at once, or at the completion of the PORT operation in
progress. -/
def State.expireLock (s : State) : State :=
  match s.arbiter.operation with
  | some { requester := .port, .. } => s.updArbiter fun a => { a with breaking := true }
  | _ => s.forceRelease

/-- The lock expires when its time has come, and is left as it is otherwise (R151). -/
def State.testLockExpiry (s : State) : State := if s.lockExpired then s.expireLock else s

/-- The completion of a request (R150, R151, R176, R178): its response is made pending with a LOCK_LOST
that was pending, and the lock is released when HOLD is clear. -/
def State.respond (s : State) (hold : Bool) (status : Status) (payload : Payload) : State :=
  let answered : State :=
    { s with
      port := { s.port with
        request := none
        response := some { status, lockLost := s.arbiter.lockLost, payload } }
      arbiter := { s.arbiter with lockLost := false } }
  if hold then answered else answered.releaseLock

/-- A request that becomes the PORT requester and waits for its grant (R176, R188). -/
def State.await (s : State) (hold : Bool) (work : TableWork) : State :=
  s.updPort fun p => { p with request := some { hold, stage := .waiting work } }

/-- The port has a request in progress or a response pending (R179). -/
def State.portBusy (s : State) : Bool := s.port.request.isSome || s.port.response.isSome

/-- SDO during a request frame of `n` bytes (R176). -/
def State.clockFiller (s : State) (n : Nat) : State :=
  s.updPort fun p => { p with sdo := List.replicate n 0xFF }

/-- A request frame discarded as a collision (R179). -/
def State.collide (s : State) : State := s.updPort fun p => { p with collision := true }

/-- The taking of a request frame with a request code (R176): collision, then form, then content. -/
def State.takeRequest (s : State) (code : Nat) (f : Frame) (content : State → State) : State :=
  let s := s.clockFiller (3 + f.payload.length)
  if s.portBusy then s.collide
  else if formOk code f then content s
  else s.respond f.hold .badRequest .none

end Sys2Proof.Machine
end

