-- ==== Sys2Proof/Machine/Params.lean ====
section
/-! DEFINITION. The parameters of Table 11-4: reading, clamping and storing them, the grid they define
(R49, R50), and cell references (R180). -/

namespace Sys2Proof.Machine

/-! ### The grid -/

/-- The grid minimum of CELL (R49). -/
def Params.gridMin (p : Params) : Nat := max 10 (ceilDiv (max p.length p.circ) 256)

/-- Axial cells of the grid, NA (R50). -/
def Params.na (p : Params) : Nat := ceilDiv p.length p.cell

/-- Circumferential cells of the grid, NC (R50). -/
def Params.nc (p : Params) : Nat := ceilDiv p.circ p.cell

/-- A cell key inside the grid in force. -/
def Params.inGrid (p : Params) (k : CellKey) : Bool := decide (k.axial < p.na) && decide (k.circ < p.nc)

/-- The grid successor of a key (R101). -/
def Params.successor (p : Params) (k : CellKey) : Option CellKey :=
  if k.circ + 1 < p.nc then some { axial := k.axial, circ := k.circ + 1 }
  else if k.axial + 1 < p.na then some { axial := k.axial + 1, circ := 0 }
  else none

/-- A long reference (R180); none where it is OUT_OF_GRID. -/
def Params.resolveLong (p : Params) (k : CellKey) : Option CellKey := if p.inGrid k then some k else none

/-- A short reference from a view base (R180); none where it is OUT_OF_GRID. -/
def Params.resolveShort (p : Params) (view : CellKey) (axialOffset circOffset : Nat) : Option CellKey :=
  if view.axial + axialOffset < p.na then
    some { axial := view.axial + axialOffset, circ := (view.circ + circOffset) % p.nc }
  else none

/-- The cell reference at the start of a payload, in the form LONG selects (R180, R193); none where it
is OUT_OF_GRID. -/
def State.resolveRef (s : State) (f : Frame) : Option CellKey :=
  if f.long then s.params.resolveLong { axial := f.byteAt 0, circ := f.byteAt 1 }
  else s.params.resolveShort s.port.view (f.byteAt 0 / 16) (f.byteAt 0 % 16)

/-! ### Reading -/

/-- The stored value of a geometry parameter. -/
def Params.getGeometry (p : Params) : GeometryParam → Nat
  | .length => p.length
  | .circ => p.circ
  | .cell => p.cell
  | .ringPos r => p.ringPos[r]
  | .colPos k => p.colPos[k]

/-- The stored value of a parameter (R185). -/
def Params.get (p : Params) : Param → Nat
  | .geometry g => p.getGeometry g
  | .vel => p.vel
  | .w => p.w
  | .settle => p.settle
  | .minDuration => p.minDuration
  | .maxDuration => p.maxDuration
  | .maxRise => p.maxRise
  | .zonalFold => p.zonalFold
  | .holdBand => p.holdBand
  | .holdSamples => p.holdSamples
  | .unloadDelta => p.unloadDelta
  | .reloadDelta => p.reloadDelta
  | .ruptureDrop => p.ruptureDrop
  | .ruptureFloor => p.ruptureFloor
  | .sampleTimeout => p.sampleTimeout
  | .confirm => p.confirm
  | .highAmp => p.highAmp
  | .highAmpLimit => p.highAmpLimit
  | .holdLimit => p.holdLimit
  | .felicityLimit => p.felicityLimit
  | .actHigh => p.actHigh
  | .retireIdle => p.retireIdle
  | .sweepInterval => p.sweepInterval
  | .policy => p.policy
  | .starveLimit => p.starveLimit
  | .lockLimit => p.lockLimit
  | .annEnable => p.annEnable
  | .annPeriod => p.annPeriod

/-! ### Writing -/

/-- The range of a parameter, its lower and its upper end (Table 11-4); that of a geometry parameter
depends on the parameters in force (Table 3-2, R49). -/
def Params.range (p : Params) : Param → Nat × Nat
  | .geometry .length => (100, 65535)
  | .geometry .circ => (100, 65535)
  | .geometry .cell => (p.gridMin, 4000)
  | .geometry (.ringPos _) => (0, p.length)
  | .geometry (.colPos _) => (0, p.circ - 1)
  | .vel => (32, 1023)
  | .w => (100, 65535)
  | .settle => (1000, 65535)
  | .minDuration => (0, 65535)
  | .maxDuration => (0, 65535)
  | .maxRise => (0, 255)
  | .zonalFold => (0, 1)
  | .holdBand => (1, 1000)
  | .holdSamples => (10, 60000)
  | .unloadDelta => (1, 10000)
  | .reloadDelta => (1, 10000)
  | .ruptureDrop => (10, 65535)
  | .ruptureFloor => (0, 65535)
  | .sampleTimeout => (10, 60000)
  | .confirm => (1, 255)
  | .highAmp => (0, 100)
  | .highAmpLimit => (1, 65535)
  | .holdLimit => (1, 255)
  | .felicityLimit => (500, 1000)
  | .actHigh => (1, 65535)
  | .retireIdle => (1, 255)
  | .sweepInterval => (10, 60000)
  | .policy => (0, 1)
  | .starveLimit => (1, 255)
  | .lockLimit => (1, 1000)
  | .annEnable => (0, 1)
  | .annPeriod => (5, 1000)

/-- The value clamped to the parameter's range (R185). -/
def Params.clamped (p : Params) (q : Param) (v : Nat) : Nat := clamp (p.range q).1 (p.range q).2 v

/-- The parameters with one value put in its place, as it is. -/
def Params.put (p : Params) (q : Param) (v : Nat) : Params :=
  match q with
  | .geometry .length => { p with length := v }
  | .geometry .circ => { p with circ := v }
  | .geometry .cell => { p with cell := v }
  | .geometry (.ringPos r) => { p with ringPos := p.ringPos.set r v }
  | .geometry (.colPos k) => { p with colPos := p.colPos.set k v }
  | .vel => { p with vel := v }
  | .w => { p with w := v }
  | .settle => { p with settle := v }
  | .minDuration => { p with minDuration := v }
  | .maxDuration => { p with maxDuration := v }
  | .maxRise => { p with maxRise := v }
  | .zonalFold => { p with zonalFold := v }
  | .holdBand => { p with holdBand := v }
  | .holdSamples => { p with holdSamples := v }
  | .unloadDelta => { p with unloadDelta := v }
  | .reloadDelta => { p with reloadDelta := v }
  | .ruptureDrop => { p with ruptureDrop := v }
  | .ruptureFloor => { p with ruptureFloor := v }
  | .sampleTimeout => { p with sampleTimeout := v }
  | .confirm => { p with confirm := v }
  | .highAmp => { p with highAmp := v }
  | .highAmpLimit => { p with highAmpLimit := v }
  | .holdLimit => { p with holdLimit := v }
  | .felicityLimit => { p with felicityLimit := v }
  | .actHigh => { p with actHigh := v }
  | .retireIdle => { p with retireIdle := v }
  | .sweepInterval => { p with sweepInterval := v }
  | .policy => { p with policy := v }
  | .starveLimit => { p with starveLimit := v }
  | .lockLimit => { p with lockLimit := v }
  | .annEnable => { p with annEnable := v }
  | .annPeriod => { p with annPeriod := v }

/-- The parameters with one value clamped to its range and stored (R185). -/
def Params.store (p : Params) (q : Param) (v : Nat) : Params := p.put q (p.clamped q v)

/-- CELL raised to the grid minimum when that now stands above it (R49). -/
def Params.raiseCell (p : Params) : Params := { p with cell := max p.cell p.gridMin }

/-- The parameters after a geometry write that is taken (R48, R49). A lowered LENGTH takes the ring
positions with it, a lowered CIRC the column positions, and a raised grid minimum takes CELL. -/
def Params.storeGeometry (p : Params) (g : GeometryParam) (v : Nat) : Params :=
  let q := p.store (.geometry g) v
  match g with
  | .length => { q with ringPos := q.ringPos.map fun z => min z q.length }.raiseCell
  | .circ => { q with colPos := q.colPos.map fun x => min x (q.circ - 1) }.raiseCell
  | .cell | .ringPos _ | .colPos _ => q

/-- The answer of a geometry write that is taken (R48, R49): OK when the value is stored as written and
nothing else is changed, ADJUSTED otherwise. -/
def Params.geometryStatus (p : Params) (g : GeometryParam) (v : Nat) : Status :=
  if p.storeGeometry g v = p.put (.geometry g) v then .ok else .adjusted

/-- The answer of a write of another parameter (R185): ADJUSTED when the value was clamped. -/
def Params.writeStatus (p : Params) (q : Param) (v : Nat) : Status :=
  if p.clamped q v = v then .ok else .adjusted

end Sys2Proof.Machine
end

