-- ==== Sys2Proof/Machine/Table.lean ====
section
/-! DEFINITION. The Source Table (chapter 5): search, key order, creation, eviction and retirement. -/

namespace Sys2Proof.Machine

/-! ### Keys and channel lists -/

/-- Key order (0.5.2): axial index first, then circumferential index. -/
def CellKey.before (a b : CellKey) : Bool :=
  decide (a.axial < b.axial) || (decide (a.axial = b.axial) && decide (a.circ < b.circ))

/-- The channel list of a record, home channel first (R84). -/
def SourceRecord.channels (r : SourceRecord) : List Channel := r.home :: r.others

/-! ### Slots -/

/-- The record in a slot; none for a free slot. -/
def SourceTable.at? (t : SourceTable) (slot : Nat) : Option SourceRecord :=
  (t.slots.find? fun e => e.1 == slot).map (·.2)

/-- The slot and record of a live key (R84); none where the key is not live. -/
def SourceTable.find? (t : SourceTable) (k : CellKey) : Option (Nat × SourceRecord) :=
  t.slots.find? fun e => e.2.key == k

/-- The slot list with a record put in a slot, slot numbers rising; a record in that slot is replaced. -/
def putSlot (slot : Nat) (r : SourceRecord) : List (Nat × SourceRecord) → List (Nat × SourceRecord)
  | [] => [(slot, r)]
  | e :: rest =>
    if slot < e.1 then (slot, r) :: e :: rest
    else if slot = e.1 then (slot, r) :: rest
    else e :: putSlot slot r rest

/-- The table with a record put in a slot. -/
def SourceTable.put (t : SourceTable) (slot : Nat) (r : SourceRecord) : SourceTable :=
  { t with slots := putSlot slot r t.slots }

/-- The table with a slot made free (R97). -/
def SourceTable.remove (t : SourceTable) (slot : Nat) : SourceTable :=
  { t with slots := t.slots.filter fun e => e.1 != slot }

/-- The table with every slot free (R82). -/
def SourceTable.clear (t : SourceTable) : SourceTable := { t with slots := [] }

/-- The table with every record changed in place. -/
def SourceTable.mapRecords (t : SourceTable) (f : SourceRecord → SourceRecord) : SourceTable :=
  { t with slots := t.slots.map fun e => (e.1, f e.2) }

/-- The lowest-numbered free slot at or above `n`, for a slot list whose numbers rise. -/
def firstFree (n : Nat) : List (Nat × SourceRecord) → Nat
  | [] => n
  | e :: rest => if e.1 = n then firstFree (n + 1) rest else n

/-- The lowest-numbered free slot (R83); none where the table is full. -/
def SourceTable.freeSlot (t : SourceTable) : Option Nat :=
  let n := firstFree 0 t.slots
  if n < Config.tableCapacity then some n else none

/-! ### Counts -/

/-- The live count (R82). -/
def SourceTable.liveCount (t : SourceTable) : Nat := t.slots.length

/-- The report count (R91): live records whose report flag is set. -/
def SourceTable.reportCount (t : SourceTable) : Nat := (t.slots.filter fun e => e.2.report).length

/-! ### Key order -/

/-- A record put into a list in key order. -/
def insertByKey (r : SourceRecord) : List SourceRecord → List SourceRecord
  | [] => [r]
  | q :: rest => if r.key.before q.key then r :: q :: rest else q :: insertByKey r rest

/-- The live records in key order (R101). -/
def SourceTable.byKey (t : SourceTable) : List SourceRecord :=
  (t.slots.map (·.2)).foldr insertByKey []

/-! ### Creation -/

/-- A record as a fold creates it, before that fold's own changes (Table 5-1). -/
def SourceRecord.ofFold (k : CellKey) (home : Channel) : SourceRecord :=
  { key := k, tracked := false, muted := false, pinned := false, seeded := false, label := none
    home := home, others := [], events := 0, fulls := 0, energySum := 0, peakAmplitude := 0
    highAmps := 0, firstTime := none, lastTime := none, firstPressure := none, onsetCycle := 0
    onsetPressure := none, felicity := none, holdSeen := 0, holdCurrent := 0, holdTotal := 0
    activity := 0, sinceSweep := 0, idleSweeps := 0, met := MetSet.empty, grade := 0, report := false }

/-- A record as SEED creates it (Table 5-1). -/
def SourceRecord.ofSeed (k : CellKey) (label : Nat) (home : Channel) : SourceRecord :=
  { SourceRecord.ofFold k home with tracked := true, pinned := true, seeded := true, label := some label }

/-- A record after CLEAR STATS (R125): the values of fold creation, with key, state, flags, label and
channel list kept, and the report flag cleared. -/
def SourceRecord.clearStats (r : SourceRecord) : SourceRecord :=
  { SourceRecord.ofFold r.key r.home with
    tracked := r.tracked, muted := r.muted, pinned := r.pinned, seeded := r.seeded, label := r.label
    others := r.others }

/-! ### Eviction -/

/-- An eviction candidate (R93). -/
def SourceRecord.evictable (r : SourceRecord) : Bool := r.grade == 0 && !r.pinned

/-- The age rank of a last-event time: an absent time is older than every present one (R93). -/
def timeRank : Option Nat → Nat
  | none => 0
  | some t => t + 1

/-- Whether candidate `a` is chosen before candidate `b` (R93): more idle sweeps, then the older
last-event time, then the lower key. -/
def SourceRecord.evictedBefore (a b : SourceRecord) : Bool :=
  decide (b.idleSweeps < a.idleSweeps) ||
    (decide (a.idleSweeps = b.idleSweeps) &&
      (decide (timeRank a.lastTime < timeRank b.lastTime) ||
        (decide (timeRank a.lastTime = timeRank b.lastTime) && a.key.before b.key)))

/-- The slot and record to evict among those of a list (R93). -/
def chooseVictim : List (Nat × SourceRecord) → Option (Nat × SourceRecord)
  | [] => none
  | e :: rest =>
    match chooseVictim rest with
    | none => if e.2.evictable then some e else none
    | some v => if e.2.evictable && e.2.evictedBefore v.2 then some e else some v

/-- The room that a table makes for a new record: the table with a slot free, that slot, and whether a
record was evicted from it. -/
structure Room where
  table : SourceTable
  slot : Nat
  evicts : Bool
deriving DecidableEq, Repr

/-- The room for a new record (R83, R92, R94, R96): the lowest free slot, or the slot of the candidate that
is evicted; none where there is neither. -/
def SourceTable.makeRoom (t : SourceTable) : Option Room :=
  match t.freeSlot with
  | some slot => some { table := t, slot := slot, evicts := false }
  | none =>
    match chooseVictim t.slots with
    | some v => some { table := t.remove v.1, slot := v.1, evicts := true }
    | none => none

/-- An eviction counted (R94, R105). -/
def SourceTable.countEviction (t : SourceTable) (evicts : Bool) : SourceTable :=
  { t with evicted := if evicts then bump t.evicted else t.evicted }

end Sys2Proof.Machine
end

