-- ==== Sys2Proof/Machine/Arbiter.lean ====
section
/-! DEFINITION. The Table Arbiter (chapter 8): requests, the choice of a grant, and what a grant does to
the recency order and the starvation count. -/

namespace Sys2Proof.Machine

/-- The urgency of the sweep (Table 7-2). -/
inductive Urgency where
  | none | may | steady | need | must
deriving DecidableEq, Repr

/-- The urgency derived from the backlog (R130). -/
def urgencyOf (backlog : Nat) : Urgency :=
  if backlog = 0 then .none
  else if backlog ≤ 3 then .may
  else if backlog ≤ 7 then .steady
  else if backlog ≤ 11 then .need
  else .must

/-- The Event Queue reports an entry eligible to fold (R37). -/
def State.foldRequests (s : State) : Bool :=
  match s.run.state with
  | .listening => !s.former.queue.isEmpty
  | .freezing => s.former.queue.any fun e => !e.held
  | .setup | .frozen => false

/-- The Scheduler requests the table (R131). -/
def State.sweepRequests (s : State) : Bool :=
  (s.run.state == .listening || s.run.state == .freezing) && (decide (0 < s.sweep.backlog) || s.sweep.pass)

/-- The table work that the port waits for (R143); none where it does not request. -/
def State.portWork (s : State) : Option (Bool × TableWork) :=
  match s.port.request with
  | some { hold, stage := .waiting work } => some (hold, work)
  | _ => none

/-- The port requests the table (R143). -/
def State.portRequests (s : State) : Bool := s.portWork.isSome

/-- `a` stands later than `b` in a recency order: it was granted less recently (R145). -/
def lessRecent (order : List Requester) (a b : Requester) : Bool :=
  decide (order.idxOf b < order.idxOf a)

/-- The background candidate B (R146, step 3). -/
def State.background (s : State) : Option Requester :=
  let oldest : Requester := if lessRecent s.arbiter.recency .fold .sweep then .fold else .sweep
  let spare : Option Requester :=
    if s.foldRequests then some .fold
    else if s.sweepRequests && !s.portRequests then some .sweep
    else none
  if s.sweepRequests then
    match urgencyOf s.sweep.backlog with
    | .need | .must => some .sweep
    | .steady => if s.foldRequests then some oldest else some .sweep
    | .may | .none => spare
  else spare

/-- PORT against a background candidate (R147): true where PORT is granted. -/
def State.portWins (s : State) (b : Requester) : Bool :=
  if s.params.policy = 0 then lessRecent s.arbiter.recency .port b
  else decide (s.params.starveLimit ≤ s.arbiter.starvation)

/-- The requester that the Arbiter grants (R144, R146, R147); none where an operation is in progress or
no one may be granted. -/
def State.grantChoice (s : State) : Option Requester :=
  if s.arbiter.operation.isSome then none
  else if s.arbiter.locked then (if s.portRequests then some .port else none)
  else if s.sweepRequests && urgencyOf s.sweep.backlog == .must then some .sweep
  else
    match s.background with
    | none => if s.portRequests then some .port else none
    | some b => if s.portRequests && s.portWins b then some .port else some b

/-- A requester moved to the front of the recency order (R145). -/
def moveToFront (r : Requester) (order : List Requester) : List Requester := r :: order.filter (· != r)

/-- What a grant does to the Arbiter (R144, R145, R148): the operation begins, the requester moves to the
front of the recency order, and the starvation count counts a background grant that PORT waits through. -/
def State.beginGrant (s : State) (r : Requester) (tookEntry endsPass : Bool) : State :=
  s.updArbiter fun a =>
    { a with
      operation := some
        { requester := r
          liveBefore := s.table.liveCount
          reportBefore := s.table.reportCount
          tookEntry := tookEntry
          endsPass := endsPass
          unplaced := false
          evicted := false
          autoRetired := 0 }
      recency := moveToFront r a.recency
      starvation :=
        if r = .port then 0
        else if s.portRequests then satInc 255 a.starvation
        else a.starvation }

end Sys2Proof.Machine
end

