-- ==== Sys2Proof/Machine/FoldEngine.lean ====
section
/-! DEFINITION. The Fold Engine (chapter 6): one fold, step by step, and the command FOLD. -/

namespace Sys2Proof.Machine

/-! ### The steps of a fold into a record (R109) -/

/-- Step 1, counters (R110). -/
def SourceRecord.foldCounters (p : Params) (e : LocatedEvent) (r : SourceRecord) : SourceRecord :=
  { r with
    events := satInc 16777215 r.events
    fulls := if e.quality = .full then satInc 16777215 r.fulls else r.fulls
    energySum := satAdd 4294967295 r.energySum e.energy
    peakAmplitude := max r.peakAmplitude e.amplitude
    highAmps := if p.highAmp ≤ e.amplitude then satInc 65535 r.highAmps else r.highAmps
    sinceSweep := satInc 4095 r.sinceSweep
    idleSweeps := 0 }

/-- Step 2, channel list (R84). -/
def SourceRecord.foldChannel (e : LocatedEvent) (r : SourceRecord) : SourceRecord :=
  if r.channels.contains e.channel || decide (4 ≤ r.channels.length) then r
  else { r with others := r.others ++ [e.channel] }

/-- Step 3, times and first-event pressure (R90): the first fold makes them present. -/
def SourceRecord.foldTimes (e : LocatedEvent) (r : SourceRecord) : SourceRecord :=
  match r.firstTime with
  | none =>
    { r with
      firstTime := some e.firstHit
      lastTime := some e.firstHit
      firstPressure := e.context.pressure }
  | some _ => { r with lastTime := some e.firstHit }

/-- The Felicity ratio of an onset, in thousandths (R112). -/
def felicityRatio (pressure priorPeak : Nat) : Nat := min 1999 (1000 * pressure / priorPeak)

/-- Step 4, onset, Felicity ratio and FELICITY (R111, R112). -/
def SourceRecord.foldOnset (p : Params) (e : LocatedEvent) (r : SourceRecord) : SourceRecord :=
  match e.context.pressure with
  | none => r
  | some pressure =>
    if r.onsetCycle = e.context.cycle then r
    else
      let r := { r with onsetCycle := e.context.cycle, onsetPressure := some pressure }
      if e.context.priorPeak = 0 then r
      else
        let ratio := felicityRatio pressure e.context.priorPeak
        { r with
          felicity := some ratio
          met := { r.met with felicity := r.met.felicity || decide (ratio < p.felicityLimit) } }

/-- Step 5, hold emission and HOLD (R114, R115). -/
def SourceRecord.foldHold (p : Params) (e : LocatedEvent) (r : SourceRecord) : SourceRecord :=
  if e.context.phase = .holding then
    let before := if r.holdSeen = e.context.hold then r.holdCurrent else 0
    let current := satInc 255 before
    { r with
      holdSeen := e.context.hold
      holdCurrent := current
      holdTotal := satInc 65535 r.holdTotal
      met := { r.met with hold := r.met.hold || decide (p.holdLimit ≤ current) } }
  else r

/-- Step 6, INTENSITY (R116). -/
def SourceRecord.foldIntensity (p : Params) (r : SourceRecord) : SourceRecord :=
  { r with met := { r.met with intensity := r.met.intensity || decide (p.highAmpLimit ≤ r.highAmps) } }

/-- Step 7, promotion (R117). -/
def SourceRecord.promote (p : Params) (r : SourceRecord) : SourceRecord :=
  { r with tracked := r.tracked || decide (p.confirm ≤ r.fulls) }

/-- The grade computed afresh from the state and the met-set (R118). -/
def SourceRecord.regrade (r : SourceRecord) : SourceRecord :=
  { r with grade := if r.tracked then min 3 r.met.count else 0 }

/-- The steps of a fold on the record itself (R109), step 8 as far as the grade. -/
def SourceRecord.foldEvent (p : Params) (e : LocatedEvent) (r : SourceRecord) : SourceRecord :=
  let r := r.foldCounters p e
  let r := r.foldChannel e
  let r := r.foldTimes e
  let r := r.foldOnset p e
  let r := r.foldHold p e
  let r := r.foldIntensity p
  let r := r.promote p
  r.regrade

/-! ### Grade raise (R119) -/

/-- A table operation on one record has ended with a higher grade than it found, and the record is not
muted (R119). -/
def SourceRecord.raisedFrom (r : SourceRecord) (found : Nat) : Bool := decide (found < r.grade) && !r.muted

/-- A record put into its slot at the end of an operation that found the grade `found`; a raise of an
unmuted record sets its report flag and raises its zone (R119). -/
def State.settleRecord (s : State) (slot : Nat) (r : SourceRecord) (found : Nat) : State :=
  if r.raisedFrom found then
    (s.updTable fun t => t.put slot { r with report := true }).raiseZone r.home r.grade
  else s.updTable fun t => t.put slot r

/-! ### One fold (R106) -/

/-- The zonal path (R107). -/
def State.chargeZone (s : State) (c : Channel) : State :=
  s.updZone c fun z => { z with unlocated := satInc 255 z.unlocated }

/-- An unplaced event (R95), counted and latched at the fold's completion (log entry 8). -/
def State.leaveUnplaced (s : State) : State := s.updOperation fun op => { op with unplaced := true }

/-- The record path (R92, R109): the fold is applied to the live record of the cell, or to a record
created for it. An eviction is counted at the fold's completion (log entry 8). -/
def State.foldRecordPath (s : State) (e : LocatedEvent) : State :=
  match s.table.find? e.cell with
  | some (slot, r) => s.settleRecord slot (r.foldEvent s.params e) r.grade
  | none =>
    match s.table.makeRoom with
    | some room =>
      ({ s with table := room.table }.updOperation fun op =>
          { op with evicted := room.evicts }).settleRecord room.slot
        ((SourceRecord.ofFold e.cell e.channel).foldEvent s.params e) 0
    | none => s.leaveUnplaced

/-- The fold of one event that has left the Event Queue (R106, R108). -/
def State.foldEvent (s : State) (e : LocatedEvent) : State :=
  if e.quality = .zonal ∧ s.params.zonalFold = 0 then s.chargeZone e.channel
  else s.foldRecordPath e

/-- The place of the Event Queue entry that a fold removes (R37): the head in LISTENING, the oldest
unmarked entry in FREEZING. -/
def State.foldIndex (s : State) : Option Nat :=
  match s.run.state with
  | .listening => if s.former.queue.isEmpty then none else some 0
  | .freezing => s.former.queue.findIdx? fun e => !e.held
  | .setup | .frozen => none

/-- One grant to FOLD (R106): the entry leaves the queue and is folded. -/
def State.grantFold (s : State) : State :=
  match s.foldIndex with
  | none => s
  | some i =>
    match s.former.queue[i]? with
    | none => s
    | some e =>
      ((s.beginGrant .fold true false).updFormer fun f =>
        { f with queue := f.queue.eraseIdx i }).foldEvent e

/-- FOLD (R106 to R119): a fold, when the Arbiter's choice is FOLD; otherwise nothing is granted (log
entries 5 and 9). -/
def execFold (s : State) : Host.Outcome State Fault Refusal :=
  whileReleased s (if s.grantChoice = some .fold then s.grantFold else s)

end Sys2Proof.Machine
end

