-- ==== Sys2Proof/Machine/Sweeps.lean ====
section
/-! DEFINITION. The Sweep Scheduler (chapter 7): the timer's expiry, the visit of a slot, slices and pass
ends, and the command SWEEP_SLICE. -/

namespace Sys2Proof.Machine

/-! ### The timer (7.1) -/

/-- The sweep timer has reached its interval (R128). -/
def State.sweepDue (s : State) : Bool :=
  match s.sweep.timer with
  | some t => decide (t.interval ≤ t.elapsed)
  | none => false

/-- One more pass owed, or an expiry lost at a full backlog (R129). -/
def State.owePass (s : State) : State :=
  if s.sweep.backlog < Config.backlogLimit then
    s.updSweep fun w => { w with backlog := w.backlog + 1 }
  else
    (s.updSweep fun w => { w with lost := bump w.lost }).updLatches fun l => { l with sweepLost := true }

/-- The expiry of the sweep timer (R128): handed to the backlog, and the timer loaded again. -/
def State.expireSweepTimer (s : State) : State := if s.sweepDue then s.owePass.loadSweepTimer else s

/-! ### The visit of a record (7.4) -/

/-- Steps 1 to 3 of a visit (R133). -/
def SourceRecord.decay (r : SourceRecord) : SourceRecord :=
  { r with
    activity := min 65535 (r.activity - r.activity / 8 + 2 * r.sinceSweep)
    idleSweeps := if r.sinceSweep = 0 then satInc 255 r.idleSweeps else r.idleSweeps
    sinceSweep := 0 }

/-- Step 4 of a visit as far as the record goes (R134). -/
def SourceRecord.judgeActivity (p : Params) (r : SourceRecord) : SourceRecord :=
  { r with
    met := { r.met with activity := r.met.activity || (r.tracked && decide (p.actHigh ≤ r.activity)) }
  }.regrade

/-- Steps 1 to 4 of a visit on the record itself. -/
def SourceRecord.visit (p : Params) (r : SourceRecord) : SourceRecord := r.decay.judgeActivity p

/-- The test of automatic retirement (R99). -/
def SourceRecord.retires (p : Params) (r : SourceRecord) : Bool :=
  r.grade == 0 && !r.pinned && decide (p.retireIdle ≤ r.idleSweeps)

/-- Step 6 of a visit (R136). -/
def State.buildZone (s : State) (r : SourceRecord) : State :=
  if r.muted then s
  else s.updZone r.home fun z => { z with building := max z.building r.grade }

/-- The visit of one slot (R132 to R136); a free slot is passed over. A retirement is counted at the slice's
completion (log entry 8). -/
def State.visitSlot (s : State) (slot : Nat) : State :=
  match s.table.at? slot with
  | none => s
  | some r =>
    let r' := r.visit s.params
    if r'.retires s.params then
      (s.updTable fun t => t.remove slot).updOperation fun op =>
        { op with autoRetired := op.autoRetired + 1 }
    else (s.settleRecord slot r' r.grade).buildZone r'

/-! ### Slices and passes (7.3, 7.5) -/

/-- The visits of `n` slots from a slot, in ascending order. -/
def State.visitSlots (s : State) (slot : Nat) : (n : Nat) → State
  | 0 => s
  | n + 1 => (s.visitSlot slot).visitSlots (slot + 1) n

/-- A pass begun where none is in progress (R132). -/
def Sweep.beginPass (w : Sweep) : Sweep := if w.pass then w else { w with pass := true, cursor := 0 }

/-- The slice that begins at the cursor reaches the last slot (R132). -/
def Sweep.slicesToEnd (w : Sweep) : Bool :=
  decide (Config.tableCapacity ≤ w.beginPass.cursor + Config.sliceSlots)

/-- The end of a pass (R137, R171), but for the backlog, which the completion of its last slice lowers
(`State.lowerBacklog`, log entry 8). -/
def State.endPass (s : State) : State :=
  (s.mapZones fun z => { live := z.building, building := 0, unlocated := 0 }).updSweep fun w =>
    { w with pass := false, cursor := 0 }

/-- One slice (R132, R137). -/
def State.slice (s : State) : State :=
  let s := s.updSweep Sweep.beginPass
  let s' := s.visitSlots s.sweep.cursor Config.sliceSlots
  if s.sweep.slicesToEnd then s'.endPass
  else s'.updSweep fun w => { w with cursor := w.cursor + Config.sliceSlots }

/-- The backlog after a pass (R137, step 2), lowered at the completion of its last slice, so that a timer expiry
which falls before that finds it as it stood (R129). -/
def State.lowerBacklog (s : State) : State := s.updSweep fun w => { w with backlog := w.backlog - 1 }

/-- One grant to SWEEP (R132). -/
def State.grantSweep (s : State) : State := (s.beginGrant .sweep false s.sweep.slicesToEnd).slice

/-! ### Commands -/

/-- SWEEP_SLICE (R132 to R137): a slice, when the Arbiter's choice is SWEEP; otherwise nothing is granted
(log entries 5 and 9). -/
def execSweepSlice (s : State) : Host.Outcome State Fault Refusal :=
  whileReleased s (if s.grantChoice = some .sweep then s.grantSweep else s)

end Sys2Proof.Machine
end

