-- ==== Sys2Proof/Machine/TableWork.lean ====
section
/-! DEFINITION. The table work of port requests (chapters 5, 6, 9 and 11); the grants of the Table Arbiter, made
at once (8.2); and the command PORT_GRANT. -/

namespace Sys2Proof.Machine

/-- The outcome of table work: the state it leaves, and its answer. -/
structure WorkResult where
  state : State
  status : Status
  payload : Payload
deriving DecidableEq, Repr

/-- An answer that changes nothing. -/
def State.answer (s : State) (status : Status) (payload : Payload) : WorkResult :=
  { state := s, status := status, payload := payload }

/-- Work on the live record of a cell; NOT_FOUND where the key is not live. -/
def State.onRecord (s : State) (k : CellKey) (work : Nat → SourceRecord → WorkResult) : WorkResult :=
  match s.table.find? k with
  | some (slot, r) => work slot r
  | none => s.answer .notFound .none

/-- LOOKUP in its grant (R102). -/
def State.workLookup (s : State) (k : CellKey) : WorkResult :=
  s.onRecord k fun _ r => s.answer .ok (.record r)

/-- A record matches a SCAN (R189). -/
def SourceRecord.matchesScan (r : SourceRecord) (start : CellKey) (minGrade : Nat) (nascent : Bool) : Bool :=
  !r.key.before start && decide (minGrade ≤ r.grade) && (r.tracked || nascent)

/-- SCAN in its grant (R189). -/
def State.workScan (s : State) (start : CellKey) (minGrade : Nat) (nascent : Bool) : WorkResult :=
  let found := s.table.byKey.filter fun r => r.matchesScan start minGrade nascent
  let shown := found.take Config.responseRecords
  let next := shown.getLast?.bind fun r => s.params.successor r.key
  s.answer .ok (.scan shown (decide (Config.responseRecords < found.length)) next)

/-- CHANGES in its grant (R190). -/
def State.workChanges (s : State) : WorkResult :=
  let found := s.table.byKey.filter fun r => r.report
  let shown := found.take Config.responseRecords
  let collect := fun (r : SourceRecord) =>
    if shown.any fun q => q.key == r.key then { r with report := false } else r
  { state := s.updTable fun t => t.mapRecords collect
    status := .ok
    payload := .changes shown (decide (Config.responseRecords < found.length)) }

/-- SEED in its grant (R96). -/
def State.workSeed (s : State) (k : CellKey) (label : Nat) (home : Channel) : WorkResult :=
  match s.table.find? k with
  | some _ => s.answer .exists .none
  | none =>
    match s.table.makeRoom with
    | none => s.answer .full .none
    | some room =>
      let r := SourceRecord.ofSeed k label home
      { state := { s with table := (room.table.countEviction room.evicts).put room.slot r }
        status := .ok
        payload := .record r }

/-- The value of a flag after a MARK action (R121, R122, R124). -/
def MarkAction.apply (a : MarkAction) (flag : Bool) : Bool :=
  match a with
  | .keep => flag
  | .set => true
  | .clear => false

/-- MARK in its grant (R121 to R124): both flags take their actions; clearing a set MUTED raises the home
zone to the record's grade, and sets the report flag where the grade is above 0. -/
def State.workMark (s : State) (k : CellKey) (muted pinned : MarkAction) : WorkResult :=
  s.onRecord k fun slot r =>
    let unmutes := r.muted && muted == .clear
    let r' := { r with
      muted := muted.apply r.muted
      pinned := pinned.apply r.pinned
      report := r.report || (unmutes && decide (0 < r.grade)) }
    let s := s.updTable fun t => t.put slot r'
    { state := if unmutes then s.raiseZone r.home r.grade else s, status := .ok, payload := .record r' }

/-- CLEAR STATS in its grant (R125). -/
def State.workClearStats (s : State) (k : CellKey) : WorkResult :=
  s.onRecord k fun slot r =>
    { state := s.updTable fun t => t.put slot r.clearStats, status := .ok, payload := .record r.clearStats }

/-- RETIRE in its grant (R98). -/
def State.workRetire (s : State) (k : CellKey) : WorkResult :=
  s.onRecord k fun slot r =>
    { state := s.updTable fun t => t.remove slot, status := .ok, payload := .record r }

/-- The Source Table emptied and the Zone Map zeroed (R82, R166, R169). -/
def State.emptyTable (s : State) : State :=
  (s.updTable SourceTable.clear).mapZones fun _ => { live := 0, building := 0, unlocated := 0 }

/-- A geometry write in its grant (R48, R49, R166). -/
def State.workGeometry (s : State) (g : GeometryParam) (value : Nat) : WorkResult :=
  let p := s.params.storeGeometry g value
  { state := { s with params := p }.emptyTable
    status := s.params.geometryStatus g value
    payload := .config (.geometry g) (p.getGeometry g) }

/-- A SENSOR WRITE in its grant (R12, R52, R166, R186). -/
def State.workSensor (s : State) (c : Channel) (e : Sensor) : WorkResult :=
  let fault : ChannelFault := { faulted := false, code := 0 }
  let s : State :=
    { s with
      sensors := s.sensors.set c e
      intake := { s.intake with faults := s.intake.faults.set c fault } }
  { state := s.emptyTable, status := .ok, payload := .sensor c e fault }

/-- The table work of a port request (R143). -/
def State.performWork (s : State) : TableWork → WorkResult
  | .lookup k => s.workLookup k
  | .scan start minGrade nascent => s.workScan start minGrade nascent
  | .changes => s.workChanges
  | .seed k label home => s.workSeed k label home
  | .mark k muted pinned => s.workMark k muted pinned
  | .clearStats k => s.workClearStats k
  | .retire k => s.workRetire k
  | .geometry g value => s.workGeometry g value
  | .sensor c e => s.workSensor c e

/-! ### Grants -/

/-- A grant of a request with HOLD set acquires a free lock, and keeps a held one (R149). -/
def State.acquireLock (s : State) (hold : Bool) : State :=
  if hold && !s.arbiter.locked then
    s.updArbiter fun a => { a with locked := true, acquired := s.now }
  else s

/-- One grant to PORT (R144, R149): the lock, the table work, and its answer kept for the completion. -/
def State.grantPort (s : State) (hold : Bool) (work : TableWork) : State :=
  let result := ((s.beginGrant .port false false).acquireLock hold).performWork work
  result.state.updPort fun p =>
    { p with request := some { hold, stage := .granted result.status result.payload } }

/-- The grant to PORT of the request that waits for it (R143). -/
def State.grantRequest (s : State) : State :=
  match s.portWork with
  | some (hold, work) => s.grantPort hold work
  | none => s

/-- A grant to a requester (R144). -/
def State.grant (s : State) : Requester → State
  | .port => s.grantRequest
  | .fold => s.grantFold
  | .sweep => s.grantSweep

/-- The grant that is owed (R144): where no operation is in progress and someone may be granted, the grant is
made at once. -/
def State.grantOwed (s : State) : State :=
  match s.grantChoice with
  | some r => s.grant r
  | none => s

/-- The outcome of a command that is neither a grant nor LOCK_EXPIRY, which R151 lets come before one (R1, R144).
A grant that is owed when the command is taken is made before it, so that nothing else comes between the
appearance of a requester at an idle table, or the completion of an operation, and the next grant (log
entry 9). -/
def afterGrant (s : State) (command : State → State) : Host.Outcome State Fault Refusal :=
  whileReleased s (command s.grantOwed)

/-! ### Commands -/

/-- PORT_GRANT (R143 to R149): a grant, when the Arbiter's choice is PORT; otherwise nothing is granted
(log entries 5 and 9). -/
def execPortGrant (s : State) : Host.Outcome State Fault Refusal :=
  whileReleased s (if s.grantChoice = some .port then s.grantRequest else s)

end Sys2Proof.Machine
end

