-- ==== Sys2Proof/Machine/Annunciator.lean ====
section
/-! DEFINITION. The Annunciator Lane (chapter 10): zone codes, run marker, the frame, and the command
ANNUNCIATOR_FRAME_START. -/

namespace Sys2Proof.Machine

/-- The code of the run marker (R175, R191). -/
def RunControl.marker (r : RunControl) : Nat :=
  match r.state, r.flavour with
  | .setup, _ => 0x01
  | .listening, _ => 0x02
  | _, some .rupture => 0x05
  | .freezing, _ => 0x03
  | .frozen, _ => 0x04

/-- The code of a zone outside SETUP (R172, R191): grade in bits 1..0, U in bit 2, F in bit 3. -/
def Zone.code (z : Zone) (faulted : Bool) : Nat :=
  z.live % 4 + (if 0 < z.unlocated then 4 else 0) + (if faulted then 8 else 0)

/-- The code of a channel's zone as a frame start finds it (R172): 0 in SETUP. -/
def State.zoneCode (s : State) (c : Channel) : Nat :=
  if s.run.state = .setup then 0 else s.zones[c].code s.intake.faults[c].faulted

/-- Data byte `i` of the frame (R191): the codes of zones 2i and 2i + 1. -/
def State.zoneByte (s : State) (i : Fin 32) : Byte :=
  BitVec.ofNat 8
    (s.zoneCode ⟨2 * i.val, by omega⟩ + 16 * s.zoneCode ⟨2 * i.val + 1, by omega⟩)

/-- The characters of a frame built from the state as it stands (R173, R191): the header with the run
marker, then 32 data characters. -/
def State.frameCharacters (s : State) : List Character :=
  makeCharacter true (BitVec.ofNat 8 s.run.marker)
    :: (List.finRange 32).map fun i => makeCharacter false (s.zoneByte i)

/-- The annunciator timer loaded from 0, with ANN_PERIOD as it stands (R173, R174). -/
def State.loadAnnTimer (s : State) : State :=
  { s with annunciator := { s.annunciator with
      timer := some { elapsed := 0, interval := s.params.annPeriod * 1000 } } }

/-- The annunciator timer has reached its period (R173). -/
def State.annDue (s : State) : Bool :=
  match s.annunciator.timer with
  | some t => decide (t.interval ≤ t.elapsed)
  | none => false

/-- A frame start (R173): the snapshot is taken, the timer loaded again, and the frame begun. -/
def State.startFrame (s : State) : State :=
  if s.annDue then
    { s with annunciator :=
        { timer := some { elapsed := 0, interval := s.params.annPeriod * 1000 }
          sending := some { characters := s.frameCharacters, ticks := 0 } } }
  else s

/-- The annunciator timer after a write of ANN_ENABLE that found the value `before` (R174). -/
def State.annEnableWritten (s : State) (before : Nat) : State :=
  if s.params.annEnable = before then s
  else if s.params.annEnable = 0 then
    { s with annunciator := { s.annunciator with timer := none } }
  else s.loadAnnTimer

/-- ANNUNCIATOR_FRAME_START (R172, R173, R175, R191); with the period not over it changes nothing (log
entry 5). Of a frame start and a change by an operation either may be taken first (R170, R173): it comes before a
grant that is owed, and the grant command ahead of it is the other order (log entry 9). -/
def execAnnunciatorFrameStart (s : State) : Host.Outcome State Fault Refusal := whileReleased s s.startFrame

end Sys2Proof.Machine
end

