-- ==== Sys2Proof/Machine/Formats.lean ====
section
/-! DEFINITION. The byte layouts of responses (chapter 12). -/

namespace Sys2Proof.Machine

/-- An optional field: all zero bytes where it is absent (R194). -/
def optionalBytes (count : Nat) (v : Option Nat) : List Byte := natToBytes count (v.getD 0)

/-- A byte of flags, the first at bit 0; bits with no field are 0 (R194). -/
def flagsByte : List Bool → Nat
  | [] => 0
  | b :: rest => b.toNat + 2 * flagsByte rest

/-- One byte. -/
def oneByte (n : Nat) : List Byte := natToBytes 1 n

/-- The code of a status (Table 12-6). -/
def Status.code : Status → Nat
  | .ok => 0x00
  | .adjusted => 0x01
  | .ignored => 0x02
  | .notFound => 0x10
  | .exists => 0x11
  | .full => 0x12
  | .state => 0x13
  | .outOfGrid => 0x14
  | .conflict => 0x15
  | .badRequest => 0x16

/-- The channel list with the places beyond the channel count sent as 0xFF (R194). -/
def channelBytes (cs : List Channel) : List Byte :=
  (cs.map (fun (c : Channel) => BitVec.ofNat 8 c.val) ++ List.replicate 4 0xFF).take 4

/-- A record in a response, 56 bytes (Table 12-9). -/
def SourceRecord.encode (r : SourceRecord) : List Byte :=
  oneByte r.key.axial ++ oneByte r.key.circ
    ++ oneByte (flagsByte [r.tracked, r.muted, r.pinned, r.seeded, r.report])
    ++ oneByte (flagsByte
        [r.label.isSome, r.firstTime.isSome, r.lastTime.isSome, r.firstPressure.isSome,
          r.onsetPressure.isSome, r.felicity.isSome])
    ++ optionalBytes 2 r.label
    ++ oneByte r.channels.length
    ++ channelBytes r.channels
    ++ natToBytes 3 r.events ++ natToBytes 3 r.fulls ++ natToBytes 4 r.energySum
    ++ oneByte r.peakAmplitude ++ natToBytes 2 r.highAmps
    ++ optionalBytes 6 r.firstTime ++ optionalBytes 6 r.lastTime ++ optionalBytes 2 r.firstPressure
    ++ natToBytes 2 r.onsetCycle ++ optionalBytes 2 r.onsetPressure ++ optionalBytes 2 r.felicity
    ++ natToBytes 2 r.holdSeen ++ oneByte r.holdCurrent ++ natToBytes 2 r.holdTotal
    ++ natToBytes 2 r.activity ++ natToBytes 2 r.sinceSweep ++ oneByte r.idleSweeps
    ++ oneByte (flagsByte [r.met.felicity, r.met.hold, r.met.activity, r.met.intensity])
    ++ oneByte r.grade

/-- The code of a run state (Table 12-10). -/
def RunState.code : RunState → Nat
  | .setup => 0
  | .listening => 1
  | .freezing => 2
  | .frozen => 3

/-- The code of a freeze flavour (Table 12-10). -/
def flavourCode : Option Flavour → Nat
  | none => 0
  | some .requested => 1
  | some .rupture => 2

/-- The code of a lane's receive state (Table 12-10). -/
def LaneState.code : LaneState → Nat
  | .closed => 0
  | .settling => 1
  | .hunting => 2
  | .accepting _ => 3
  | .ignoring => 4

/-- The code of a pressure phase (Table 12-10). -/
def PressurePhase.code : PressurePhase → Nat
  | .noPressure => 0
  | .loading => 1
  | .holding => 2
  | .unloading => 3

/-- The latch byte (Table 12-10). -/
def Latches.code (l : Latches) : Nat :=
  flagsByte [l.rupture, l.frozenReached, l.tableFull, l.queueDrop, l.sweepLost, l.lockBroken,
    l.pressureStale, l.linkError]

/-- The STATUS payload, 23 bytes (Table 12-10). -/
def StatusReport.encode (r : StatusReport) : List Byte :=
  oneByte r.run.code ++ oneByte (flavourCode r.flavour) ++ oneByte r.laneA.code ++ oneByte r.laneB.code
    ++ oneByte (flagsByte [r.cutoff.isSome, r.pressure.isSome, r.locked])
    ++ optionalBytes 6 r.cutoff ++ oneByte r.phase.code ++ optionalBytes 2 r.pressure
    ++ natToBytes 2 r.cycle ++ natToBytes 2 r.liveCount ++ natToBytes 2 r.reportCount
    ++ oneByte r.backlog ++ oneByte r.queueDepth ++ oneByte r.latches.code

/-- A cell key as two bytes (R193, Table 12-8). -/
def CellKey.encode (k : CellKey) : List Byte := oneByte k.axial ++ oneByte k.circ

/-- A continuation key, two bytes of 0 where it is absent (R194). -/
def continuationBytes (k : Option CellKey) : List Byte :=
  optionalBytes 1 (k.map CellKey.axial) ++ optionalBytes 1 (k.map CellKey.circ)

/-- The payload of a response (Table 12-8). -/
def Payload.encode : Payload → List Byte
  | .none => []
  | .status r => r.encode
  | .counters values => values.flatMap (natToBytes 2)
  | .config p v => oneByte (paramCode p) ++ natToBytes 2 v
  | .sensor c e fault =>
    oneByte c.val ++ oneByte e.ring.val ++ oneByte e.column.val
      ++ oneByte (flagsByte [e.enabled, fault.faulted]) ++ [fault.code]
  | .view k => k.encode
  | .record r => r.encode
  | .scan rs more next =>
    oneByte rs.length ++ oneByte (flagsByte [more, next.isSome])
      ++ continuationBytes next
      ++ rs.flatMap SourceRecord.encode
  | .changes rs more =>
    oneByte rs.length ++ oneByte (flagsByte [more]) ++ rs.flatMap SourceRecord.encode

/-- The bytes of a response (Table 12-4), with the collision flag as it stands at the read (R178). -/
def Response.encode (r : Response) (collided : Bool) : List Byte :=
  oneByte r.status.code ++ oneByte (flagsByte [r.lockLost, collided])
    ++ natToBytes 2 r.payload.encode.length ++ r.payload.encode

end Sys2Proof.Machine
end

