-- ==== Sys2Proof/Machine/Intake.lean ====
section
/-! DEFINITION. The Hit Intake (chapter 1): characters on the hit lanes, hit and fault frames, the Merge,
and the restart and settle counts. -/

namespace Sys2Proof.Machine

/-! ### From hit frame to descriptor (1.5) -/

/-- The signed difference D of a frame time and the low ticks of the timebase (R13). -/
def frameDifference (now frameTime : Nat) : Int :=
  let d := modSub frameTime (now % Config.lowSpan) Config.lowSpan
  if d < 2 ^ 31 then (d : Int) else (d : Int) - 2 ^ 32

/-- The reconstructed time of a hit (R13); none where it is a time fault (R14). -/
def reconstructTime (now frameTime : Nat) : Option Nat :=
  let d := frameDifference now frameTime
  let t := (now : Int) + d
  if t < 0 ∨ 10000 < d then none else some (t.toNat % Config.timebaseSpan)

/-- The descriptor of a hit frame's bytes at a full time, its amplitude clamped (R15, Table 12-2). -/
def hitDescriptor (c : Channel) (time : Nat) (bytes : List Byte) : Descriptor :=
  { channel := c
    time := time
    amplitude := min 100 (bytesToNat ((bytes.drop 4).take 1))
    energy := bytesToNat ((bytes.drop 5).take 2)
    duration := bytesToNat ((bytes.drop 7).take 2)
    riseTime := bytesToNat ((bytes.drop 9).take 1) }

/-- The noise filter rejects a hit (R15). -/
def Params.noisy (p : Params) (d : Descriptor) : Bool :=
  decide (d.duration < p.minDuration) || decide (p.maxDuration < d.duration) ||
    decide (p.maxRise < d.riseTime)

/-! ### The Merge (1.6) -/

/-- The lane that the Merge serves next (R16); none where both holding slots are empty. -/
def Intake.nextServed (i : Intake) : Option Lane :=
  match i.laneA.slot.isSome, i.laneB.slot.isSome with
  | true, true => if i.lastServed = .a then some .b else some .a
  | true, false => some .a
  | false, true => some .b
  | false, false => none

/-- A descriptor offered to the Staging FIFO (R17). -/
def State.offerDescriptor (s : State) (d : Descriptor) : State :=
  if s.intake.fifo.length < Config.fifoCapacity then
    s.updIntake fun i => { i with fifo := i.fifo ++ [d], hitsStaged := bump i.hitsStaged }
  else
    (s.updIntake fun i => { i with overruns := bump i.overruns }).latchQueueDrop

/-- The Merge serves the holding slot of a lane (R16). -/
def State.serveLane (s : State) (l : Lane) : State :=
  match (s.intake.lane l).slot with
  | none => s
  | some d =>
    ((s.updLane l fun r => { r with slot := none }).updIntake fun i =>
      { i with lastServed := l }).offerDescriptor d

/-- The Merge serves the holding slot whose turn it is (R16). -/
def State.mergeServe (s : State) : State :=
  match s.intake.nextServed with
  | some l => s.serveLane l
  | none => s

/-- A descriptor placed in its lane's holding slot (R15, R16). The slot is free by the Merge's service
(R16); a slot not yet served is served first (log entry 6). -/
def State.fillSlot (s : State) (l : Lane) (d : Descriptor) : State :=
  (s.serveLane l).updLane l fun r => { r with slot := some d }

/-! ### Completed frames -/

/-- A complete hit frame for an accepted channel (1.5): time reconstruction, time check, amplitude clamp
and noise filter, in this order. -/
def State.hitFrame (s : State) (l : Lane) (c : Channel) (bytes : List Byte) : State :=
  match reconstructTime s.now (bytesToNat (bytes.take 4)) with
  | none => s.updIntake fun i => { i with timeFaults := bump i.timeFaults }
  | some time =>
    let d := hitDescriptor c time bytes
    if s.params.noisy d then s.updIntake fun i => { i with noises := bump i.noises }
    else s.fillSlot l d

/-- A complete fault frame for an accepted channel (R11). -/
def State.faultFrame (s : State) (l : Lane) (c : Channel) (code : Byte) : State :=
  if code = 0 then s.updLane l fun r => { r with malformeds := bump r.malformeds }
  else s.updIntake fun i => { i with faults := i.faults.set c { faulted := true, code := code } }

/-- The data bytes of a frame of a kind (1.3). -/
def FrameKind.dataBytes : FrameKind → Nat
  | .hit => 10
  | .fault => 1

/-- A completed frame, checked once more against the accept map (R7). -/
def State.completeFrame (s : State) (l : Lane) (fr : LaneFrame) : State :=
  if s.accepted fr.channel then
    match fr.kind with
    | .hit => s.hitFrame l fr.channel fr.bytes
    | .fault => s.faultFrame l fr.channel (fr.bytes.getD 0 0)
  else s.updLane l fun r => { r with foreigns := bump r.foreigns }

/-! ### Characters -/

/-- A frame opened for an accepted channel; IGNORING, counted FOREIGN, for another (R6). -/
def State.openFrame (s : State) (l : Lane) (kind : FrameKind) (c : Channel) : State :=
  if s.accepted c then
    s.setLaneState l (.accepting { kind := kind, channel := c, bytes := [] })
  else
    s.updLane l fun r => { r with state := .ignoring, foreigns := bump r.foreigns }

/-- A good header examined for its kind and channel (R6). -/
def State.examineHeader (s : State) (l : Lane) (b : Byte) : State :=
  match headerKind b with
  | .hit => s.openFrame l .hit (headerChannel b)
  | .fault => s.openFrame l .fault (headerChannel b)
  | .unused | .pressure =>
    s.updLane l fun r => { r with state := .ignoring, malformeds := bump r.malformeds }

/-- A good header on an open lane (R6, R7): in ACCEPTING it ends the frame in progress first. -/
def State.laneHeader (s : State) (l : Lane) (b : Byte) : State :=
  match (s.intake.lane l).state with
  | .accepting _ =>
    (s.updLane l fun r => { r with state := .hunting, fragments := bump r.fragments }).examineHeader l b
  | _ => s.examineHeader l b

/-- A good data character on an open lane (R6, R7): appended in ACCEPTING, ignored otherwise. -/
def State.laneData (s : State) (l : Lane) (b : Byte) : State :=
  match (s.intake.lane l).state with
  | .accepting fr =>
    let fr' := { fr with bytes := fr.bytes ++ [b] }
    if fr'.bytes.length < fr.kind.dataBytes then s.setLaneState l (.accepting fr')
    else (s.setLaneState l .hunting).completeFrame l fr'
  | _ => s

/-- A character error on an open lane (R9). -/
def State.laneError (s : State) (l : Lane) : State :=
  (s.updLane l fun r => { r with state := .hunting, linkErrors := bump r.linkErrors }).latchLinkError

/-- The lane is open: HUNTING, ACCEPTING or IGNORING (Table 1-1). -/
def LaneState.isOpen : LaneState → Bool
  | .closed | .settling => false
  | .hunting | .accepting _ | .ignoring => true

/-- A character taken on a hit lane (R4, Table 1-1): discarded unseen on a shut lane, else checked and
handed to the lane's frame handling. -/
def State.takeHitCharacter (s : State) (l : Lane) (ch : Character) : State :=
  if (s.intake.lane l).state.isOpen then
    match receive ch with
    | .idle => s
    | .header b => s.laneHeader l b
    | .data b => s.laneData l b
    | .error => s.laneError l
  else s

/-! ### Restart and settling (1.7) -/

/-- The end of the restart count (R19). -/
def State.endRestart (s : State) : State :=
  if s.intake.phase = .restart ∧ Config.restartTicks ≤ s.intake.restartCount then
    s.updIntake fun i => { i with phase := .settle, settleCount := 0 }
  else s

/-- Both lanes in one receive state. -/
def State.setLanes (s : State) (st : LaneState) : State := (s.setLaneState .a st).setLaneState .b st

/-- The state a lane takes when the settle phase becomes DONE (R5). -/
def RunControl.laneState (r : RunControl) : LaneState := if r.state = .setup then .closed else .hunting

/-- The end of the settle count (R5, R20). -/
def State.endSettle (s : State) : State :=
  if s.intake.phase = .settle ∧ Config.settleTicks ≤ s.intake.settleCount then
    (s.updIntake fun i => { i with phase := .done }).setLanes s.run.laneState
  else s

/-- The start of a channel restart (R19, R21, R43): what it does to the intake and the open events. -/
def State.startRestart (s : State) : State :=
  ((s.updIntake fun i =>
    { i.emptyPath with phase := .restart, restartCount := 0, faults := noFaults }).setLanes
      .settling).abortOpenEvents

/-! ### Commands -/

/-- HIT_LANE_HEADER (R4 to R7). -/
def execHitLaneHeader (lane : Lane) (ch : Character) (s : State) : Host.Outcome State Fault Refusal :=
  afterGrant s fun s => s.takeHitCharacter lane ch

/-- HIT_LANE_DATA_CHARACTER (R4, R7, R11, R13 to R15). -/
def execHitLaneDataCharacter (lane : Lane) (ch : Character) (s : State) :
    Host.Outcome State Fault Refusal :=
  afterGrant s fun s => s.takeHitCharacter lane ch

/-- HIT_LANE_CHARACTER_ERROR (R4, R9). -/
def execHitLaneCharacterError (lane : Lane) (ch : Character) (s : State) :
    Host.Outcome State Fault Refusal :=
  afterGrant s fun s => s.takeHitCharacter lane ch

/-- MERGE_SERVE (R16, R17). With both holding slots empty it changes nothing (log entry 5). -/
def execMergeServe (s : State) : Host.Outcome State Fault Refusal := afterGrant s fun s => s.mergeServe

/-- RESTART_COUNT_EXPIRY (R19). -/
def execRestartCountExpiry (s : State) : Host.Outcome State Fault Refusal := afterGrant s fun s => s.endRestart

/-- SETTLE_COUNT_EXPIRY (R20). -/
def execSettleCountExpiry (s : State) : Host.Outcome State Fault Refusal := afterGrant s fun s => s.endSettle

end Sys2Proof.Machine
end

