-- ==== Sys2Proof/Machine/Locator.lean ====
section
/-! DEFINITION. The Locator (chapter 3): partners, offsets, position, quality and cell key. -/

namespace Sys2Proof.Machine

/-- What the Locator returns (3): quality, z, x and the cell key. -/
structure Location where
  quality : Quality
  z : Nat
  x : Nat
  cell : CellKey
deriving DecidableEq, Repr

/-- A sensor on an axial neighbour position of the reference (R53). -/
def Sensor.axialOf (n ref : Sensor) : Bool :=
  n.column == ref.column && (n.ring.val + 1 == ref.ring.val || n.ring.val == ref.ring.val + 1)

/-- A sensor on the circumferential neighbour position of the k + 1 side (R53). -/
def Sensor.plusSideOf (n ref : Sensor) : Bool :=
  n.ring == ref.ring && n.column.val == (ref.column.val + 1) % 16

/-- A sensor on the circumferential neighbour position of the k - 1 side (R53). -/
def Sensor.minusSideOf (n ref : Sensor) : Bool :=
  n.ring == ref.ring && n.column.val == (ref.column.val + 15) % 16

/-- The descriptor of earliest time; the one that stands earlier where two are equal (R55). -/
def earliest : List Descriptor → Option Descriptor
  | [] => none
  | d :: rest =>
    match earliest rest with
    | none => some d
    | some e => if d.time ≤ e.time then some d else some e

/-- The axial partner (R55): the earliest of the other members on an accepted axial neighbour. -/
def State.axialPartner (s : State) (ref : Sensor) (rest : List Descriptor) : Option Descriptor :=
  earliest (rest.filter fun d => s.accepted d.channel && s.sensors[d.channel].axialOf ref)

/-- The circumferential partner (R55). -/
def State.circPartner (s : State) (ref : Sensor) (rest : List Descriptor) : Option Descriptor :=
  earliest (rest.filter fun d => s.accepted d.channel &&
    (s.sensors[d.channel].plusSideOf ref || s.sensors[d.channel].minusSideOf ref))

/-- The offset d of a span L and a time difference (R58), in mm. -/
def offset (vel span dt : Nat) : Nat :=
  let p := dt * vel
  let lq := span * 1024
  if lq ≤ p then 0 else (lq - p) / 2048

/-- The axial coordinate (R57, R59). -/
def Params.axialPosition (p : Params) (ref : Sensor) (firstTime : Nat) (partner : Option (Sensor × Nat)) :
    Nat :=
  let z := p.ringPos[ref.ring]
  match partner with
  | none => z
  | some (sensor, time) =>
    let zp := p.ringPos[sensor.ring]
    let d := offset p.vel (absDiff zp z) (time - firstTime)
    if z < zp then z + d else z - d

/-- The circumferential coordinate (R57, R60). -/
def Params.circPosition (p : Params) (ref : Sensor) (firstTime : Nat) (partner : Option (Sensor × Nat)) :
    Nat :=
  let x := p.colPos[ref.column]
  match partner with
  | none => x
  | some (sensor, time) =>
    let xp := p.colPos[sensor.column]
    if sensor.plusSideOf ref then
      (x + offset p.vel (modSub xp x p.circ) (time - firstTime)) % p.circ
    else
      modSub x (offset p.vel (modSub x xp p.circ) (time - firstTime)) p.circ

/-- The quality (R61), from whether the axial and the circumferential partner are present. -/
def qualityOf : (axial circ : Bool) → Quality
  | true, true => .full
  | true, false => .axial
  | false, true => .circ
  | false, false => .zonal

/-- The cell key of a position (R62). -/
def Params.cellOf (p : Params) (z x : Nat) : CellKey :=
  { axial := min (z / p.cell) (p.na - 1), circ := x / p.cell }

/-- The location of a closing event (R63), from its first member and its other members. -/
def State.locate (s : State) (first : Descriptor) (rest : List Descriptor) : Location :=
  let ref := s.sensors[first.channel]
  let axial := s.axialPartner ref rest
  let circ := s.circPartner ref rest
  let withSensor := fun (d : Descriptor) => (s.sensors[d.channel], d.time)
  let z := s.params.axialPosition ref first.time (axial.map withSensor)
  let x := s.params.circPosition ref first.time (circ.map withSensor)
  { quality := qualityOf axial.isSome circ.isSome
    z := z
    x := x
    cell := s.params.cellOf z x }

end Sys2Proof.Machine
end

