-- ==== Sys2Proof/Machine/Former.lean ====
section
/-! DEFINITION. The Event Former (chapter 2): placement of hits, opening and closing of events, the Event
Queue, and the commands HIT_PLACEMENT and EVENT_EXPIRY. -/

namespace Sys2Proof.Machine

/-- The place and value of the least `f` among the elements that meet `p`; the earlier place where two
are equal (R23). -/
def leastIndex {α : Type} (p : α → Bool) (f : α → Nat) : List α → Option (Nat × Nat)
  | [] => none
  | a :: rest =>
    match leastIndex p f rest with
    | none => if p a then some (0, f a) else none
    | some (j, v) => if p a && decide (f a ≤ v) then some (0, f a) else some (j + 1, v)

/-! ### Closing -/

/-- The pressure context as it stands (R76). -/
def Monitor.context (m : Monitor) : Context :=
  { pressure := m.current, phase := m.phase, cycle := m.cycle, hold := m.holdIndex, priorPeak := m.priorPeak }

/-- The number of members of an open event. -/
def OpenEvent.memberCount (e : OpenEvent) : Nat := e.rest.length + 1

/-- The channels of an open event's members. -/
def OpenEvent.hasChannel (e : OpenEvent) (c : Channel) : Bool :=
  e.first.channel == c || e.rest.any fun d => d.channel == c

/-- The located event of a closing event (Table 2-2), its held mark as R36 gives. -/
def State.locatedEvent (s : State) (e : OpenEvent) : LocatedEvent :=
  let loc := s.locate e.first e.rest
  { firstHit := e.first.time, channel := e.first.channel, members := e.memberCount
    quality := loc.quality, z := loc.z, x := loc.x, cell := loc.cell
    amplitude := e.first.amplitude, energy := e.first.energy
    context := e.context, early := e.early, held := s.boundary }

/-- A located event offered to the Event Queue (R35). -/
def State.offerEvent (s : State) (ev : LocatedEvent) : State :=
  if s.former.queue.length < Config.queueCapacity then
    s.updFormer fun f => { f with queue := f.queue ++ [ev] }
  else
    (s.updFormer fun f => { f with eventDrops := bump f.eventDrops }).latchQueueDrop

/-- The close of an event that has been taken out of the Open Event Set (R34). -/
def State.closeEvent (s : State) (e : OpenEvent) : State :=
  let ev := s.locatedEvent e
  (s.updFormer fun f =>
    { f with
      formed := bump f.formed
      zonals := if ev.quality = .zonal then bump f.zonals else f.zonals }).offerEvent ev

/-- The close of the open event at a place of the Open Event Set (R34), with its early flag set first
when the close is early (R32). -/
def State.closeAt (s : State) (i : Nat) (early : Bool) : State :=
  match s.former.openSet[i]? with
  | none => s
  | some e =>
    (s.updFormer fun f => { f with openSet := f.openSet.eraseIdx i }).closeEvent
      { e with early := e.early || early }

/-! ### Placement -/

/-- The hit is later than the cutoff of a latched rupture (R25). -/
def State.postRupture (s : State) (d : Descriptor) : Bool :=
  match s.monitor.cutoff with
  | some c => decide (c < d.time)
  | none => false

/-- An open event is a candidate for a hit (R26). -/
def OpenEvent.candidate (w : Nat) (d : Descriptor) (e : OpenEvent) : Bool :=
  decide (absDiff d.time e.first.time ≤ w) && !e.hasChannel d.channel

/-- The place of the candidate that a hit is offered to (R26). -/
def State.candidateIndex (s : State) (d : Descriptor) : Option Nat :=
  (leastIndex (OpenEvent.candidate s.params.w d) (fun e => e.first.time) s.former.openSet).map (·.1)

/-- A descriptor inserted after every one that is earlier or of equal time (R28). -/
def insertByTime (d : Descriptor) : List Descriptor → List Descriptor
  | [] => [d]
  | e :: rest => if e.time ≤ d.time then e :: insertByTime d rest else d :: e :: rest

/-- An event that a hit joins (R28): the hit takes its place among the members, and becomes the first
member, with a new expiry, when it is earlier than the first. -/
def OpenEvent.join (e : OpenEvent) (d : Descriptor) (wait : Nat) : OpenEvent :=
  if d.time < e.first.time then
    { e with first := d, rest := e.first :: e.rest, expiry := d.time + wait }
  else
    { e with rest := insertByTime d e.rest }

/-- W + SETTLE as they stand (R28, R31). -/
def Params.wait (p : Params) : Nat := p.w + p.settle

/-- A hit that joins the event at a place (R28); the event closes at once when its first member is
replaced and its new expiry is not later than now. -/
def State.joinAt (s : State) (i : Nat) (e : OpenEvent) (d : Descriptor) : State :=
  let e' := e.join d s.params.wait
  let s' := s.updFormer fun f => { f with openSet := f.openSet.set i e' }
  if d.time < e.first.time ∧ e'.expiry ≤ s.now then s'.closeAt i false else s'

/-- The early close that makes room for a new event (R32). -/
def State.earlyClose (s : State) : State :=
  if Config.openCapacity ≤ s.former.openSet.length then
    match leastIndex (fun _ => true) (fun e => e.expiry) s.former.openSet with
    | some (i, _) => (s.updFormer fun f => { f with earlies := bump f.earlies }).closeAt i true
    | none => s
  else s

/-- The open event that a hit opens (R31). -/
def State.newEvent (s : State) (d : Descriptor) : OpenEvent :=
  { first := d, rest := [], expiry := d.time + s.params.wait, context := s.monitor.context, early := false }

/-- A hit that opens an event (R31, R32). -/
def State.openEvent (s : State) (d : Descriptor) : State :=
  s.earlyClose.updFormer fun f => { f with openSet := f.openSet ++ [s.newEvent d] }

/-- The placement of a hit by R25 to R32. -/
def State.placeHit (s : State) (d : Descriptor) : State :=
  if s.postRupture d then
    s.updFormer fun f => { f with postRuptures := bump f.postRuptures }
  else
    match s.candidateIndex d with
    | some i =>
      match s.former.openSet[i]? with
      | some e =>
        if Config.memberCapacity ≤ e.memberCount then
          s.updFormer fun f => { f with excesses := bump f.excesses }
        else s.joinAt i e d
      | none => s
    | none =>
      if d.time + s.params.wait ≤ s.now then
        s.updFormer fun f => { f with lates := bump f.lates }
      else s.openEvent d

/-- The Event Former takes the head of the Staging FIFO and places it (R24). A close within it is a test
of the rupture drain (R164). -/
def State.takeHit (s : State) : State :=
  match s.intake.fifo with
  | [] => s
  | d :: rest =>
    ((s.updIntake fun i => { i with fifo := rest }).placeHit d).testRuptureDrain

/-- The place of the earliest-opened event whose expiry the timebase has reached (R33). -/
def State.dueEvent (s : State) : Option Nat :=
  s.former.openSet.findIdx? fun e => decide (e.expiry ≤ s.now)

/-- The close of the earliest-opened event whose expiry the timebase has reached (R33). -/
def State.expireEvent (s : State) : State :=
  match s.dueEvent with
  | some i => (s.closeAt i false).testRuptureDrain
  | none => s

/-! ### Commands -/

/-- The outcome of a command that may offer an event to the Event Queue. At 64 entries the offer and the removal of
an entry by a fold may fall together, and the one that comes first is taken first (R35): the command goes before a
fold that is owed, since the grant command of that fold ahead of it is the other order. An offer at 64 entries
leaves every request and choice of the Arbiter as it is. -/
def offering (s : State) (command : State → State) : Host.Outcome State Fault Refusal :=
  if s.former.queue.length < Config.queueCapacity then afterGrant s command
  else whileReleased s (command s)

/-- HIT_PLACEMENT (R24 to R32). With an empty Staging FIFO it changes nothing (log entry 5). -/
def execHitPlacement (s : State) : Host.Outcome State Fault Refusal := offering s fun s => s.takeHit

/-- EVENT_EXPIRY (R33, R34). It closes one event; with no expiry reached it changes nothing (log
entries 5 and 22). -/
def execEventExpiry (s : State) : Host.Outcome State Fault Refusal := offering s fun s => s.expireEvent

end Sys2Proof.Machine
end

