-- ==== Sys2Proof/Machine/Pressure.lean ====
section
/-! DEFINITION. The pressure lane and the Pressure Monitor (chapter 4): samples, the sample timeout, the
phase machine and rupture. -/

namespace Sys2Proof.Machine

/-! ### The phase machine (4.3) -/

/-- P is at or below the cycle peak less UNLOAD_DELTA, formed as a signed number (Table 4-2). -/
def unloads (p : Params) (peak pressure : Nat) : Bool := decide (pressure + p.unloadDelta ≤ peak)

/-- P is within HOLD_BAND of the hold reference (4.3). -/
def Monitor.inBand (m : Monitor) (p : Params) (pressure : Nat) : Bool :=
  decide (absDiff pressure m.holdRef ≤ p.holdBand)

/-- UNLOADING begins at P (R71, R72). -/
def Monitor.beginUnloading (m : Monitor) (pressure : Nat) : Monitor :=
  { m with phase := .unloading, trough := pressure, holdCount := 0 }

/-- LOADING with the hold reference at P (R70, R72, R73). -/
def Monitor.beginLoading (m : Monitor) (pressure : Nat) : Monitor :=
  { m with phase := .loading, holdRef := pressure, holdCount := 0 }

/-- The cycle peak raised to P where P is higher. -/
def Monitor.raisePeak (m : Monitor) (pressure : Nat) : Monitor :=
  { m with cyclePeak := max m.cyclePeak pressure }

/-- A valid sample in NO_PRESSURE (R70). -/
def Monitor.sampleNoPressure (m : Monitor) (p : Params) (pressure : Nat) : Monitor :=
  if unloads p m.cyclePeak pressure then { m with phase := .unloading, trough := pressure }
  else (m.raisePeak pressure).beginLoading pressure

/-- A valid sample in LOADING (R71). -/
def Monitor.sampleLoading (m : Monitor) (p : Params) (pressure : Nat) : Monitor :=
  let m := m.raisePeak pressure
  if unloads p m.cyclePeak pressure then m.beginUnloading pressure
  else if m.inBand p pressure then
    let m := { m with holdCount := m.holdCount + 1 }
    if p.holdSamples ≤ m.holdCount then
      { m with phase := .holding, holdIndex := satInc 65535 m.holdIndex }
    else m
  else { m with holdRef := pressure, holdCount := 0 }

/-- A valid sample in HOLDING (R72). -/
def Monitor.sampleHolding (m : Monitor) (p : Params) (pressure : Nat) : Monitor :=
  let m := m.raisePeak pressure
  if m.inBand p pressure then m
  else if unloads p m.cyclePeak pressure then m.beginUnloading pressure
  else m.beginLoading pressure

/-- A valid sample in UNLOADING (R73). -/
def Monitor.sampleUnloading (m : Monitor) (p : Params) (pressure : Nat) : Monitor :=
  let m := { m with trough := min m.trough pressure }
  if m.trough + p.reloadDelta ≤ pressure then
    { m with
      priorPeak := max m.priorPeak m.cyclePeak
      cyclePeak := pressure
      cycle := satInc 65535 m.cycle }.beginLoading pressure
  else m

/-- A valid sample taken by the rule for its phase (R67). -/
def Monitor.samplePhase (m : Monitor) (p : Params) (pressure : Nat) : Monitor :=
  match m.phase with
  | .noPressure => m.sampleNoPressure p pressure
  | .loading => m.sampleLoading p pressure
  | .holding => m.sampleHolding p pressure
  | .unloading => m.sampleUnloading p pressure

/-! ### Rupture (4.6) -/

/-- The rupture test of a valid sample (R77). -/
def State.ruptures (s : State) (pressure : Nat) : Bool :=
  s.run.state != .setup && s.monitor.cutoff.isNone &&
    match s.monitor.current with
    | some prev => decide (s.params.ruptureFloor ≤ prev) && decide (pressure + s.params.ruptureDrop ≤ prev)
    | none => false

/-- The Event Former at the rupture latch (R38 to R40): open events and queue entries later than the
cutoff are discarded and counted, then the held marks are cleared. -/
def Former.rupturePurge (f : Former) (cutoff : Nat) : Former :=
  let late := f.openSet.filter fun e => decide (cutoff < e.first.time)
  let lateEntries := f.queue.filter fun e => decide (cutoff < e.firstHit)
  { f with
    openSet := f.openSet.filter fun e => decide (e.first.time ≤ cutoff)
    aborteds := satAdd 65535 f.aborteds late.length
    queue := (f.queue.filter fun e => decide (e.firstHit ≤ cutoff)).map fun e => { e with held := false }
    eventDrops := satAdd 65535 f.eventDrops lateEntries.length }

/-- The rupture latch set at a sample stamped with now (R77), and the rupture freeze (R163, R164). -/
def State.latchRupture (s : State) : State :=
  ({ s with
    monitor := { s.monitor with cutoff := some s.now }
    latches := { s.latches with rupture := true }
    former := s.former.rupturePurge s.now
    run := { state := .freezing, flavour := some .rupture } }.stopSweepTimer).testRuptureDrain

/-- A completed pressure frame (R67): a valid sample is tested for rupture, taken by the phase rule, and
becomes the current pressure with a new stamp; an invalid one changes nothing. -/
def State.takeSample (s : State) (pressure : Nat) (statusByte : Byte) : State :=
  if statusByte.getLsbD 0 then
    let s := if s.ruptures pressure then s.latchRupture else s
    s.updMonitor fun m => { m.samplePhase s.params pressure with current := some pressure, stamp := s.now }
  else s

/-! ### The sample timeout (4.2) -/

/-- The sample timeout has run out (R68). -/
def State.sampleStale (s : State) : Bool :=
  s.monitor.current.isSome && decide (s.params.sampleTimeout * 1000 ≤ s.elapsedSince s.monitor.stamp)

/-- The expiry of the sample timeout (R68). -/
def State.expireSample (s : State) : State :=
  { s with
    monitor := { s.monitor with phase := .noPressure, current := none, holdCount := 0 }
    latches := { s.latches with pressureStale := true } }

/-- The sample timeout expires when its time has come (R68, R69). -/
def State.testSampleTimeout (s : State) : State := if s.sampleStale then s.expireSample else s

/-! ### PLIN (4.1) -/

/-- The PLIN receiver in a receive state. -/
def State.setPlinState (s : State) (st : PlinState) : State := s.updPlin fun p => { p with state := st }

/-- A good header examined by its kind (R65). -/
def State.examinePlinHeader (s : State) (b : Byte) : State :=
  match headerKind b with
  | .pressure => s.setPlinState (.accepting [])
  | .hit | .fault | .unused =>
    s.updPlin fun p => { p with state := .ignoring, malformeds := bump p.malformeds }

/-- A good header on PLIN (R65): in ACCEPTING it ends the frame in progress first. -/
def State.plinHeader (s : State) (b : Byte) : State :=
  match s.plin.state with
  | .accepting _ =>
    (s.updPlin fun p => { p with state := .hunting, fragments := bump p.fragments }).examinePlinHeader b
  | _ => s.examinePlinHeader b

/-- A good data character on PLIN (R65): appended in ACCEPTING, where the third completes the frame. -/
def State.plinData (s : State) (b : Byte) : State :=
  match s.plin.state with
  | .accepting bytes =>
    let bytes' := bytes ++ [b]
    if bytes'.length < 3 then s.setPlinState (.accepting bytes')
    else (s.setPlinState .hunting).takeSample (bytesToNat (bytes'.take 2)) (bytes'.getD 2 0)
  | _ => s

/-- A character error on PLIN (R66). -/
def State.plinError (s : State) : State :=
  (s.updPlin fun p => { p with state := .hunting, linkErrors := bump p.linkErrors }).latchLinkError

/-- A character taken on PLIN (R4, R65). -/
def State.takePlinCharacter (s : State) (ch : Character) : State :=
  match receive ch with
  | .idle => s
  | .header b => s.plinHeader b
  | .data b => s.plinData b
  | .error => s.plinError

/-! ### Commands -/

/-- PLIN_HEADER (R65). -/
def execPlinHeader (ch : Character) (s : State) : Host.Outcome State Fault Refusal :=
  afterGrant s fun s => s.takePlinCharacter ch

/-- The character completes a sample that latches a rupture (R65, R67, R77). -/
def State.latchesRupture (s : State) (ch : Character) : Bool :=
  match receive ch, s.plin.state with
  | .data b, .accepting [low, high] => b.getLsbD 0 && s.ruptures (bytesToNat [low, high])
  | _, _ => false

/-- PLIN_DATA_CHARACTER (R65, R67, R70 to R73, R77). A rupture may fall together with the request that makes a fold
owed, such as a THAW, and its purge keeps every later event from the table (R162, R163, R168): the latch comes before
a fold that is owed, and FOLD ahead of it is a fold in progress at the latch (log entry 9). -/
def execPlinDataCharacter (ch : Character) (s : State) : Host.Outcome State Fault Refusal :=
  if s.grantChoice = some .fold ∧ s.latchesRupture ch then whileReleased s (s.takePlinCharacter ch)
  else afterGrant s fun s => s.takePlinCharacter ch

/-- PLIN_CHARACTER_ERROR (R66). -/
def execPlinCharacterError (ch : Character) (s : State) : Host.Outcome State Fault Refusal :=
  afterGrant s fun s => s.takePlinCharacter ch

/-- SAMPLE_TIMEOUT_EXPIRY (R68). -/
def execSampleTimeoutExpiry (s : State) : Host.Outcome State Fault Refusal :=
  afterGrant s fun s => s.testSampleTimeout

end Sys2Proof.Machine
end

