-- ==== Sys2Proof/Machine/RunControl.lean ====
section
/-! DEFINITION. Run Control (chapter 9): START, STOP, FREEZE, THAW, ENGINE RESET, RESTART CHANNELS and the
drain ends. -/

namespace Sys2Proof.Machine

/-! ### START (9.2) -/

/-- The pressure history reset for a new run (R79). -/
def Monitor.startRun (m : Monitor) : Monitor :=
  let m : Monitor :=
    { m with
      cycle := 1
      cyclePeak := m.current.getD 0
      priorPeak := 0
      holdIndex := 0
      cutoff := none }
  if m.phase = .noPressure then m
  else { m with phase := .loading, holdRef := m.current.getD 0, holdCount := 0 }

/-- A record prepared for a new run (R103). -/
def SourceRecord.startRun (r : SourceRecord) : SourceRecord :=
  { r with onsetCycle := 0, onsetPressure := none, holdCurrent := 0, holdSeen := 0 }

/-- The number of channels enabled in the sensor map (R157). -/
def State.enabledCount (s : State) : Nat := (s.sensors.toList.filter fun e => e.enabled).length

/-- The effects of a START that is not refused (R157). -/
def State.startRun (s : State) : State :=
  let s : State :=
    { s with
      monitor := s.monitor.startRun
      table := s.table.mapRecords SourceRecord.startRun
      run := { state := .listening, flavour := none } }
  let s := s.loadSweepTimer
  if s.intake.phase = .done then s.setLanes .hunting else s

/-- The content of START (R157). -/
def State.requestStart (s : State) (hold : Bool) : State :=
  if s.run.state = .setup ∧ 2 ≤ s.enabledCount then s.startRun.respond hold .ok .none
  else s.respond hold .state .none

/-! ### STOP (9.3) -/

/-- A lane when the run state returns to SETUP (R5): an open lane closes. -/
def LaneState.close : LaneState → LaneState
  | .settling => .settling
  | .closed | .hunting | .accepting _ | .ignoring => .closed

/-- The effects of a STOP that is not refused (R158). -/
def State.stopRun (s : State) : State :=
  let s := s.updIntake fun i =>
    let i := i.emptyPath
    { i with
      laneA := { i.laneA with state := i.laneA.state.close }
      laneB := { i.laneB with state := i.laneB.state.close } }
  let s := s.abortOpenEvents.updFormer fun f =>
    { f with queue := [], eventDrops := satAdd 65535 f.eventDrops f.queue.length }
  { s.stopSweepTimer.abandonSweep with run := { state := .setup, flavour := none } }

/-- The content of STOP (R158): refused in SETUP; otherwise it acts, or waits for a fold or slice in
progress (R154). -/
def State.requestStop (s : State) (hold : Bool) : State :=
  if s.run.state = .setup then s.respond hold .state .none
  else if s.backgroundBusy then s.updPort fun p => { p with request := some { hold, stage := .stop } }
  else s.stopRun.respond hold .ok .none

/-! ### FREEZE and THAW (9.4, 9.5) -/

/-- The effects of FREEZE in LISTENING (R159). -/
def State.freezeRun (s : State) : State :=
  let freezing : State :=
    { s.stopSweepTimer with run := { state := .freezing, flavour := some .requested } }
  freezing.testRequestedDrain

/-- The content of FREEZE (R159). -/
def State.requestFreeze (s : State) (hold : Bool) : State :=
  match s.run.state with
  | .setup => s.respond hold .state .none
  | .listening => s.freezeRun.respond hold .ok .none
  | .freezing | .frozen => s.respond hold .ok .none

/-- The effects of a THAW that is not refused (R162). -/
def State.thawRun (s : State) : State :=
  let thawed : State :=
    { s with
      former := { s.former with queue := s.former.queue.map fun e => { e with held := false } }
      run := { state := .listening, flavour := none } }
  thawed.loadSweepTimer

/-- The content of THAW (R162). -/
def State.requestThaw (s : State) (hold : Bool) : State :=
  if s.boundary then s.thawRun.respond hold .ok .none
  else s.respond hold .state .none

/-! ### ENGINE RESET (9.7) and RESTART CHANNELS (1.7) -/

/-- The effects of ENGINE RESET (R165). -/
def State.resetEngine (s : State) : State :=
  let s := (s.updIntake Intake.emptyPath).abortOpenEvents.updFormer fun f => { f with queue := [] }
  let s := s.abandonSweep.releaseLock.updArbiter fun a => { a with starvation := 0 }
  if s.run.state = .freezing then s.enterFrozen else s

/-- The content of ENGINE RESET (R165): it acts, or waits for a fold or slice in progress (R154). -/
def State.requestEngineReset (s : State) (hold : Bool) : State :=
  if s.backgroundBusy then s.updPort fun p => { p with request := some { hold, stage := .engineReset } }
  else s.resetEngine.respond hold .ok .none

/-- The content of RESTART CHANNELS (R19, R21, R43); the discard of open events is a test of the rupture
drain (R164). -/
def State.requestRestart (s : State) (hold : Bool) : State :=
  s.startRestart.testRuptureDrain.respond hold .ok .none

/-! ### Commands -/

/-- START (R157). -/
def execStart (f : Frame) (s : State) : Host.Outcome State Fault Refusal :=
  afterGrant s fun s => s.takeRequest 0x10 f fun s => s.requestStart f.hold

/-- STOP (R158). -/
def execStop (f : Frame) (s : State) : Host.Outcome State Fault Refusal :=
  afterGrant s fun s => s.takeRequest 0x11 f fun s => s.requestStop f.hold

/-- FREEZE (R159). -/
def execFreeze (f : Frame) (s : State) : Host.Outcome State Fault Refusal :=
  afterGrant s fun s => s.takeRequest 0x12 f fun s => s.requestFreeze f.hold

/-- THAW (R162). -/
def execThaw (f : Frame) (s : State) : Host.Outcome State Fault Refusal :=
  afterGrant s fun s => s.takeRequest 0x13 f fun s => s.requestThaw f.hold

/-- ENGINE RESET (R165). -/
def execEngineReset (f : Frame) (s : State) : Host.Outcome State Fault Refusal :=
  afterGrant s fun s => s.takeRequest 0x14 f fun s => s.requestEngineReset f.hold

/-- RESTART CHANNELS (R19, R21). -/
def execRestartChannels (f : Frame) (s : State) : Host.Outcome State Fault Refusal :=
  afterGrant s fun s => s.takeRequest 0x15 f fun s => s.requestRestart f.hold

/-- REQUESTED_DRAIN_END (R160); where the condition does not hold it changes nothing (log entry 5). -/
def execRequestedDrainEnd (s : State) : Host.Outcome State Fault Refusal :=
  afterGrant s fun s => s.testRequestedDrain

/-- RUPTURE_DRAIN_END (R164); where the condition does not hold it changes nothing (log entry 5). -/
def execRuptureDrainEnd (s : State) : Host.Outcome State Fault Refusal :=
  afterGrant s fun s => s.testRuptureDrain

end Sys2Proof.Machine
end

