-- ==== Sys2Proof/Machine/Port.lean ====
section
/-! DEFINITION. The Command Port (chapter 11): the requests that need no table, the checks of those that
do, and the reading of responses. -/

namespace Sys2Proof.Machine

/-! ### STATUS and COUNTERS -/

/-- The live count as the last completed operation left it (R154). -/
def State.shownLive (s : State) : Nat :=
  match s.arbiter.operation with
  | some op => op.liveBefore
  | none => s.table.liveCount

/-- The report count as the last completed operation left it (R154). -/
def State.shownReports (s : State) : Nat :=
  match s.arbiter.operation with
  | some op => op.reportBefore
  | none => s.table.reportCount

/-- The queue depth without the removal of an operation in progress (R154). -/
def State.shownDepth (s : State) : Nat :=
  match s.arbiter.operation with
  | some op => min Config.queueCapacity (s.former.queue.length + op.tookEntry.toNat)
  | none => s.former.queue.length

/-- What STATUS reports (R182), the latches and the backlog as they stand, which a fold or slice changes at its
completion alone (R154). -/
def State.statusReport (s : State) : StatusReport :=
  { run := s.run.state
    flavour := s.run.flavour
    laneA := s.intake.laneA.state
    laneB := s.intake.laneB.state
    locked := s.arbiter.locked
    cutoff := s.monitor.cutoff
    phase := s.monitor.phase
    pressure := s.monitor.current
    cycle := s.monitor.cycle
    liveCount := s.shownLive
    reportCount := s.shownReports
    backlog := s.sweep.backlog
    queueDepth := s.shownDepth
    latches := s.latches }

/-- The content of STATUS (R182): the report, then the latches it reports are cleared. -/
def State.requestStatus (s : State) (hold : Bool) : State :=
  let report := s.statusReport
  (s.updLatches fun l => l.clearShown report.latches).respond hold .ok (.status report)

/-- The four counters of a hit lane, in report order (Table 11-3). -/
def LaneReceiver.counterValues (r : LaneReceiver) : List Nat :=
  [r.linkErrors, r.fragments, r.foreigns, r.malformeds]

/-- The 28 counters in report order (Table 11-3); PLIN's FOREIGN place, its fourth, stays 0. Those of the
table stand as the last completed operation left them (R154). -/
def State.counterValues (s : State) : List Nat :=
  s.intake.laneA.counterValues ++ s.intake.laneB.counterValues
    ++ [s.plin.linkErrors, s.plin.fragments, s.plin.malformeds, 0]
    ++ [s.intake.timeFaults, s.intake.noises, s.intake.overruns, s.intake.hitsStaged]
    ++ [s.former.lates, s.former.excesses, s.former.postRuptures, s.former.earlies, s.former.aborteds,
        s.former.formed, s.former.eventDrops, s.former.zonals]
    ++ [s.table.unplaced, s.table.autoRetired, s.table.evicted, s.sweep.lost]

/-- A hit lane with its counters at 0. -/
def LaneReceiver.clearCounters (r : LaneReceiver) : LaneReceiver :=
  { r with linkErrors := 0, fragments := 0, foreigns := 0, malformeds := 0 }

/-- Every counter set to 0 (R184). -/
def State.clearCounters (s : State) : State :=
  { s with
    intake := { s.intake with
      laneA := s.intake.laneA.clearCounters
      laneB := s.intake.laneB.clearCounters
      timeFaults := 0, noises := 0, overruns := 0, hitsStaged := 0 }
    plin := { s.plin with linkErrors := 0, fragments := 0, malformeds := 0 }
    former := { s.former with
      postRuptures := 0, excesses := 0, lates := 0, earlies := 0, aborteds := 0, formed := 0
      eventDrops := 0, zonals := 0 }
    table := { s.table with unplaced := 0, autoRetired := 0, evicted := 0 }
    sweep := { s.sweep with lost := 0 } }

/-- The content of COUNTERS (R184): the report, then every counter cleared where CLEAR is set. -/
def State.requestCounters (s : State) (f : Frame) : State :=
  let values := s.counterValues
  (if f.clear then s.clearCounters else s).respond f.hold .ok (.counters values)

/-! ### Configuration -/

/-- The content of CONFIG READ (R185). -/
def State.requestConfigRead (s : State) (f : Frame) : State :=
  match paramOfCode (f.byteAt 0) with
  | some p => s.respond f.hold .ok (.config p (s.params.get p))
  | none => s.respond f.hold .badRequest .none

/-- A parameter write that needs no table (R185): the value is clamped and stored. -/
def State.storeParam (s : State) (p : Param) (value : Nat) : State :=
  { s with params := s.params.store p value }

/-- The answer to such a write, with the value stored. -/
def State.answerWrite (s before : State) (hold : Bool) (p : Param) (value : Nat) : State :=
  s.respond hold (before.params.writeStatus p value) (.config p (s.params.get p))

/-- A geometry write (R166, R185): refused outside SETUP, else it waits for its grant. -/
def State.writeGeometry (s : State) (hold : Bool) (g : GeometryParam) (value : Nat) : State :=
  if s.run.state = .setup then s.await hold (.geometry g value)
  else s.respond hold .state .none

/-- A write of SAMPLE_TIMEOUT (R69): the sample timeout expires at once where it has run out. -/
def State.writeSampleTimeout (s : State) (hold : Bool) (value : Nat) : State :=
  (s.storeParam .sampleTimeout value).testSampleTimeout.answerWrite s hold .sampleTimeout value

/-- A write of LOCK_LIMIT (R151): the lock expires at once where it has run out. -/
def State.writeLockLimit (s : State) (hold : Bool) (value : Nat) : State :=
  (s.storeParam .lockLimit value).testLockExpiry.answerWrite s hold .lockLimit value

/-- A write of ANN_ENABLE (R174). -/
def State.writeAnnEnable (s : State) (hold : Bool) (value : Nat) : State :=
  ((s.storeParam .annEnable value).annEnableWritten s.params.annEnable).answerWrite s hold .annEnable value

/-- A write of one parameter, by what the parameter's own rules do (R185). -/
def State.writeParam (s : State) (hold : Bool) (p : Param) (value : Nat) : State :=
  match p with
  | .geometry g => s.writeGeometry hold g value
  | .sampleTimeout => s.writeSampleTimeout hold value
  | .lockLimit => s.writeLockLimit hold value
  | .annEnable => s.writeAnnEnable hold value
  | p => (s.storeParam p value).answerWrite s hold p value

/-- The content of CONFIG WRITE (R185). -/
def State.requestConfigWrite (s : State) (f : Frame) : State :=
  match paramOfCode (f.byteAt 0) with
  | some p => s.writeParam f.hold p (bytesToNat (f.payload.drop 1))
  | none => s.respond f.hold .badRequest .none

/-! ### The sensor map -/

/-- A channel number of a payload; none where it is above 63. -/
def channelOf (n : Nat) : Option Channel := if h : n < 64 then some ⟨n, h⟩ else none

/-- A ring or column number of a payload; none where it is above 15. -/
def gridLine (n : Nat) : Option (Fin 16) := if h : n < 16 then some ⟨n, h⟩ else none

/-- The content of SENSOR READ (R186). -/
def State.requestSensorRead (s : State) (f : Frame) : State :=
  match channelOf (f.byteAt 0) with
  | some c => s.respond f.hold .ok (.sensor c s.sensors[c] s.intake.faults[c])
  | none => s.respond f.hold .badRequest .none

/-- Another enabled channel already has the position of a new enabled entry (R52). -/
def State.sensorConflict (s : State) (c : Channel) (e : Sensor) : Bool :=
  e.enabled && (List.finRange 64).any fun d =>
    d != c && s.sensors[d].enabled && s.sensors[d].ring == e.ring && s.sensors[d].column == e.column

/-- The entry of a SENSOR WRITE payload (Table 12-5); none where a number is out of its range (R186). -/
def sensorOperands (f : Frame) : Option (Channel × Sensor) :=
  match channelOf (f.byteAt 0), gridLine (f.byteAt 1), gridLine (f.byteAt 2) with
  | some c, some ring, some column =>
    some (c, { ring := ring, column := column, enabled := (f.payload.getD 3 0).getLsbD 0 })
  | _, _, _ => none

/-- The content of SENSOR WRITE (R186): its fields, the run state, the conflict, then the wait for its
grant. -/
def State.requestSensorWrite (s : State) (f : Frame) : State :=
  match sensorOperands f with
  | none => s.respond f.hold .badRequest .none
  | some (c, e) =>
    if s.run.state ≠ .setup then s.respond f.hold .state .none
    else if s.sensorConflict c e then s.respond f.hold .conflict .none
    else s.await f.hold (.sensor c e)

/-! ### The view base -/

/-- The content of SET VIEW (R181). -/
def State.requestSetView (s : State) (f : Frame) : State :=
  if f.long then
    match s.params.resolveLong { axial := f.byteAt 0, circ := f.byteAt 1 } with
    | some k => (s.updPort fun p => { p with view := k }).respond f.hold .ok (.view k)
    | none => s.respond f.hold .outOfGrid .none
  else s.respond f.hold .ignored (.view s.port.view)

/-! ### The checks of table requests (R188) -/

/-- A request for one cell: OUT_OF_GRID, or the wait for its grant (R180, R188). -/
def State.awaitCell (s : State) (f : Frame) (work : CellKey → TableWork) : State :=
  match s.resolveRef f with
  | some k => s.await f.hold (work k)
  | none => s.respond f.hold .outOfGrid .none

/-- The content of LOOKUP. -/
def State.requestLookup (s : State) (f : Frame) : State := s.awaitCell f .lookup

/-- The content of SCAN (R189): the minimum grade, then the reference. -/
def State.requestScan (s : State) (f : Frame) : State :=
  if 3 < f.byteAt f.refBytes then s.respond f.hold .badRequest .none
  else s.awaitCell f fun k =>
    .scan k (f.byteAt f.refBytes) ((f.payload.getD (f.refBytes + 1) 0).getLsbD 0)

/-- The content of CHANGES (R190). -/
def State.requestChanges (s : State) (f : Frame) : State := s.await f.hold .changes

/-- The content of SEED (R96): the home channel, then the reference. -/
def State.requestSeed (s : State) (f : Frame) : State :=
  match channelOf (f.byteAt (f.refBytes + 2)) with
  | none => s.respond f.hold .badRequest .none
  | some home => s.awaitCell f fun k => .seed k (bytesToNat ((f.payload.drop f.refBytes).take 2)) home

/-- The action that two bits of a MARK action byte name (Table 12-5); none for binary 11 (R193). -/
def markAction (n : Nat) : Option MarkAction :=
  match n % 4 with
  | 0 => some .keep
  | 1 => some .set
  | 2 => some .clear
  | _ => none

/-- The content of MARK (R188): the action fields, then the reference. -/
def State.requestMark (s : State) (f : Frame) : State :=
  match markAction (f.byteAt f.refBytes), markAction (f.byteAt f.refBytes / 4) with
  | some muted, some pinned => s.awaitCell f fun k => .mark k muted pinned
  | _, _ => s.respond f.hold .badRequest .none

/-- The content of CLEAR STATS. -/
def State.requestClearStats (s : State) (f : Frame) : State := s.awaitCell f .clearStats

/-- The content of RETIRE. -/
def State.requestRetire (s : State) (f : Frame) : State := s.awaitCell f .retire

/-! ### Frames that are no well-formed request, and read frames -/

/-- A frame with no request code, or shorter than a header (R176): BAD_REQUEST, with HOLD clear where the
frame is too short to carry its flags. A frame with no complete byte is ignored. -/
def State.takeUnknown (s : State) (bytes : List Byte) : State :=
  match bytes with
  | [] => s
  | _ :: rest =>
    let s := s.clockFiller bytes.length
    if s.portBusy then s.collide
    else s.respond ((rest.getD 0 0).getLsbD 0) .badRequest .none

/-- The bytes sent on SDO in a read frame of `n` bytes (R177): the response from the second byte on, then
filler. -/
def readBytes (n : Nat) (response : List Byte) : List Byte :=
  (0xFF :: response ++ List.replicate n 0xFF).take n

/-- A read frame of `n` complete bytes (R177, R178). With `overtaken`, a request frame is taken at the moment
at which SELn returns high, before the read completes: it collides after the response header was clocked out,
and a read that completes clears that collision unreported (R179, log entry 25). -/
def State.readResponse (s : State) (n : Nat) (overtaken : Bool) : State :=
  if n = 0 then s
  else
    match s.port.response with
    | none => s.clockFiller n
    | some r =>
      let bytes := r.encode s.port.collision
      let s := s.updPort fun p =>
        { p with sdo := readBytes n bytes, collision := p.collision || overtaken }
      if bytes.length + 1 ≤ n then
        s.updPort fun p => { p with response := none, collision := false }
      else s

/-! ### Commands -/

/-- STATUS (R182). -/
def execStatus (f : Frame) (s : State) : Host.Outcome State Fault Refusal :=
  afterGrant s fun s => s.takeRequest 0x01 f fun s => s.requestStatus f.hold

/-- COUNTERS (R184). -/
def execCounters (f : Frame) (s : State) : Host.Outcome State Fault Refusal :=
  afterGrant s fun s => s.takeRequest 0x02 f fun s => s.requestCounters f

/-- CONFIG READ (R185). -/
def execConfigRead (f : Frame) (s : State) : Host.Outcome State Fault Refusal :=
  afterGrant s fun s => s.takeRequest 0x03 f fun s => s.requestConfigRead f

/-- CONFIG WRITE (R185). -/
def execConfigWrite (f : Frame) (s : State) : Host.Outcome State Fault Refusal :=
  afterGrant s fun s => s.takeRequest 0x04 f fun s => s.requestConfigWrite f

/-- A CONFIG WRITE of a geometry parameter (R47 to R49, R166, R185). -/
def execGeometryWrite (flags : Byte) (g : GeometryParam) (value : BitVec 16) (s : State) :
    Host.Outcome State Fault Refusal :=
  let f := configFrame flags (.geometry g) value
  afterGrant s fun s => s.takeRequest 0x04 f fun s => s.writeGeometry f.hold g value.toNat

/-- A CONFIG WRITE of SAMPLE_TIMEOUT (R69, R185). -/
def execSampleTimeoutWrite (flags : Byte) (value : BitVec 16) (s : State) :
    Host.Outcome State Fault Refusal :=
  let f := configFrame flags .sampleTimeout value
  afterGrant s fun s => s.takeRequest 0x04 f fun s => s.writeSampleTimeout f.hold value.toNat

/-- A CONFIG WRITE of LOCK_LIMIT (R151, R155, R185). -/
def execLockLimitWrite (flags : Byte) (value : BitVec 16) (s : State) :
    Host.Outcome State Fault Refusal :=
  let f := configFrame flags .lockLimit value
  afterGrant s fun s => s.takeRequest 0x04 f fun s => s.writeLockLimit f.hold value.toNat

/-- A CONFIG WRITE of ANN_ENABLE (R174, R185). -/
def execAnnEnableWrite (flags : Byte) (value : BitVec 16) (s : State) :
    Host.Outcome State Fault Refusal :=
  let f := configFrame flags .annEnable value
  afterGrant s fun s => s.takeRequest 0x04 f fun s => s.writeAnnEnable f.hold value.toNat

/-- SENSOR READ (R186). -/
def execSensorRead (f : Frame) (s : State) : Host.Outcome State Fault Refusal :=
  afterGrant s fun s => s.takeRequest 0x05 f fun s => s.requestSensorRead f

/-- SENSOR WRITE (R52, R186). -/
def execSensorWrite (f : Frame) (s : State) : Host.Outcome State Fault Refusal :=
  afterGrant s fun s => s.takeRequest 0x06 f fun s => s.requestSensorWrite f

/-- SET VIEW (R181). -/
def execSetView (f : Frame) (s : State) : Host.Outcome State Fault Refusal :=
  afterGrant s fun s => s.takeRequest 0x16 f fun s => s.requestSetView f

/-- LOOKUP (R102, R188). -/
def execLookup (f : Frame) (s : State) : Host.Outcome State Fault Refusal :=
  afterGrant s fun s => s.takeRequest 0x20 f fun s => s.requestLookup f

/-- SCAN (R188, R189). -/
def execScan (f : Frame) (s : State) : Host.Outcome State Fault Refusal :=
  afterGrant s fun s => s.takeRequest 0x21 f fun s => s.requestScan f

/-- CHANGES (R190). -/
def execChanges (f : Frame) (s : State) : Host.Outcome State Fault Refusal :=
  afterGrant s fun s => s.takeRequest 0x22 f fun s => s.requestChanges f

/-- SEED (R96, R188). -/
def execSeed (f : Frame) (s : State) : Host.Outcome State Fault Refusal :=
  afterGrant s fun s => s.takeRequest 0x23 f fun s => s.requestSeed f

/-- MARK (R121, R188). -/
def execMark (f : Frame) (s : State) : Host.Outcome State Fault Refusal :=
  afterGrant s fun s => s.takeRequest 0x24 f fun s => s.requestMark f

/-- CLEAR STATS (R125, R188). -/
def execClearStats (f : Frame) (s : State) : Host.Outcome State Fault Refusal :=
  afterGrant s fun s => s.takeRequest 0x25 f fun s => s.requestClearStats f

/-- RETIRE (R98, R188). -/
def execRetire (f : Frame) (s : State) : Host.Outcome State Fault Refusal :=
  afterGrant s fun s => s.takeRequest 0x26 f fun s => s.requestRetire f

/-- A frame with an unknown request code, or shorter than a header (R176). -/
def execUnknownRequestCode (bytes : List Byte) (s : State) : Host.Outcome State Fault Refusal :=
  afterGrant s fun s => s.takeUnknown bytes

/-- A read frame (R177 to R179). -/
def execResponseRead (r : ReadFrame) (s : State) : Host.Outcome State Fault Refusal :=
  afterGrant s fun s => s.readResponse r.bytes r.overtaken

end Sys2Proof.Machine
end

