-- ==== Sys2Proof/Machine/Completion.lean ====
section
/-! DEFINITION. The completion of table operations (R144), and the commands OPERATION_COMPLETION, LOCK_EXPIRY and
SWEEP_TIMER_EXPIRY. -/

namespace Sys2Proof.Machine

/-! ### Completion -/

/-- The completion of a PORT operation (R144, R150, R151): a release that was waiting is made by force,
then the response is made pending. -/
def State.completePort (s : State) : State :=
  let s := if s.arbiter.breaking then s.forceRelease else s
  match s.port.request with
  | some { hold, stage := .granted status payload } => s.respond hold status payload
  | _ => s

/-- What a fold or slice counts and latches (R95, R105, R135). The model does so at its completion, so that a
request taken within the operation finds the counters and TABLE_FULL as the last completed operation left them
(R154): DEDUCED, log entry 8. -/
def State.countOperation (s : State) (op : Operation) : State :=
  { s with
    table := { s.table with
      unplaced := satAdd 65535 s.table.unplaced op.unplaced.toNat
      autoRetired := satAdd 65535 s.table.autoRetired op.autoRetired
      evicted := satAdd 65535 s.table.evicted op.evicted.toNat }
    latches := { s.latches with tableFull := s.latches.tableFull || op.unplaced } }

/-- What a fold or slice does at its completion: it is counted, and a pass that it ended leaves the backlog
(R129, R137). -/
def State.finishOperation (s : State) (op : Operation) : State :=
  let s := s.countOperation op
  if op.endsPass then s.lowerBacklog else s

/-- The completion of a fold or slice (R144, R160, R164): its own last effects, the test of the drains, then a
STOP or ENGINE RESET that waited acts and is answered (R154, R158, R165). -/
def State.completeBackground (s : State) (op : Operation) : State :=
  let s := (s.finishOperation op).testRequestedDrain.testRuptureDrain
  match s.port.request with
  | some { hold, stage := .stop } => s.stopRun.respond hold .ok .none
  | some { hold, stage := .engineReset } => s.resetEngine.respond hold .ok .none
  | _ => s

/-- The completion of the operation in progress (R144). -/
def State.completeOperation (s : State) : State :=
  match s.arbiter.operation with
  | none => s
  | some op =>
    let s := s.updArbiter fun a => { a with operation := none }
    if op.requester = .port then s.completePort else s.completeBackground op

/-! ### Commands -/

/-- OPERATION_COMPLETION (R144, R150, R151, R176); with no operation in progress it changes nothing (log
entry 5). -/
def execOperationCompletion (s : State) : Host.Outcome State Fault Refusal :=
  afterGrant s fun s => s.completeOperation

/-- LOCK_EXPIRY (R151); with no lock run out it changes nothing (log entry 5). It may fall together with the grant
of a port request under the lock, and is then the one taken first: it comes before a grant that is owed, so that
the lock is released at once and that request is granted like any other, among all who then request. The grant
taken first is PORT_GRANT ahead of it (log entry 9). -/
def execLockExpiry (s : State) : Host.Outcome State Fault Refusal := whileReleased s s.testLockExpiry

/-- SWEEP_TIMER_EXPIRY (R128, R129); with no timer run out it changes nothing (log entry 5). -/
def execSweepTimerExpiry (s : State) : Host.Outcome State Fault Refusal :=
  afterGrant s fun s => s.expireSweepTimer

end Sys2Proof.Machine
end

