-- ==== Sys2Proof/Machine/Timebase.lean ====
section
/-! DEFINITION. The Timebase Unit (1.1): RESETn, one tick, and the part's own events of a tick; and the
levels of the output lines. -/

namespace Sys2Proof.Machine

/-! ### RESETn -/

/-- RESETn asserted (R1): every block in its after-RESET state, and held there. -/
def State.assertReset (s : State) : State := { State.reset with pending := s.pending, resetAsserted := true }

/-- RESETn released (R1): every block starts from its after-RESET state. -/
def State.releaseReset (s : State) : State :=
  if s.resetAsserted then { State.reset with pending := s.pending } else s

/-! ### One tick -/

/-- The low ticks of the timebase (R1). -/
def State.lowTicks (s : State) : Nat := s.now % Config.lowSpan

/-- The epoch of the timebase (R1). -/
def State.epoch (s : State) : Nat := s.now / Config.lowSpan

/-- A running timer one tick on. -/
def Timer.tick (t : Timer) : Timer := { t with elapsed := t.elapsed + 1 }

/-- A frame being sent one tick on; it is over after 990 ticks (10.3). -/
def Sending.tick (f : Sending) : Option Sending :=
  if f.ticks + 1 < Config.frameTicks then some { f with ticks := f.ticks + 1 } else none

/-- One tick (R1, R2, R19, R20, R128, R173): the timebase, TBMARK, the restart and settle counts, the
sweep timer, the annunciator timer and the frame being sent. -/
def State.tick (s : State) : State :=
  let now := (s.now + 1) % Config.timebaseSpan
  { s with
    now := now
    tbmark := now % Config.lowSpan == 0
    intake := { s.intake with
      restartCount := if s.intake.phase = .restart then s.intake.restartCount + 1 else s.intake.restartCount
      settleCount := if s.intake.phase = .settle then s.intake.settleCount + 1 else s.intake.settleCount }
    sweep := { s.sweep with timer := s.sweep.timer.map Timer.tick }
    annunciator :=
      { timer := s.annunciator.timer.map Timer.tick
        sending := s.annunciator.sending.bind Sending.tick } }

/-- The next tick is the one on which the low ticks wrap to zero (R2). -/
def State.wrapNext (s : State) : Bool := s.lowTicks + 1 == Config.lowSpan

/-! ### The part's own events -/

/-- The expiries that the timebase has reached, in the fixed order of log entry 2. -/
def State.dueExpiries (s : State) : List Instr :=
  (if s.intake.phase = .restart ∧ Config.restartTicks ≤ s.intake.restartCount then
      [Instr.restartCountExpiry] else [])
    ++ (if s.intake.phase = .settle ∧ Config.settleTicks ≤ s.intake.settleCount then
      [Instr.settleCountExpiry] else [])
    ++ (if s.sampleStale then [Instr.sampleTimeoutExpiry] else [])
    ++ (if s.dueEvent.isSome then [Instr.eventExpiry] else [])
    ++ (if s.sweepDue then [Instr.sweepTimerExpiry] else [])
    ++ (if s.lockExpired then [Instr.lockExpiry] else [])
    ++ (if s.annDue then [Instr.annunciatorFrameStart] else [])

/-- The grant command of a requester. -/
def Requester.command : Requester → Instr
  | .port => .portGrant
  | .fold => .fold
  | .sweep => .sweepSlice

/-- The work that the part does by itself within a tick (R16, R24, R144), at most one of each kind, in the
fixed order of log entry 3. Grants are none of it: each is made at once (R144). -/
def State.ownWork (s : State) : List Instr :=
  (if s.intake.nextServed.isSome then [Instr.mergeServe] else [])
    ++ (if s.intake.fifo.isEmpty then [] else [Instr.hitPlacement])
    ++ (if s.arbiter.operation.isSome then [Instr.operationCompletion] else [])

/-- What the part does on an empty queue (log entries 2 and 3): a grant that is owed is made at once (R144); else
it takes up the expiries that are due; where none is due, one tick passes, with the part's own work taken up. The
tick on which the low ticks wrap is the command LOW_TICKS_WRAP. While RESETn is asserted it does nothing (R1). On
one tick the part's own work, such as a placement, therefore comes before the expiries that this tick reaches; R33
and R35 leave that order open, and it is the model's choice (log entry 24). -/
def State.idle (s : State) : State :=
  if s.resetAsserted then s
  else
    match s.grantChoice with
    | some r => { s with pending := [r.command] }
    | none =>
      if s.dueExpiries ≠ [] then { s with pending := s.dueExpiries }
      else if s.wrapNext then { s with pending := .lowTicksWrap :: s.ownWork }
      else { s.tick with pending := s.ownWork }

/-! ### Commands -/

/-- RESET (R1). -/
def execReset (s : State) : Host.Outcome State Fault Refusal := .next s.assertReset

/-- RESETN_RELEASE (R1); with RESETn already released it changes nothing. -/
def execResetnRelease (s : State) : Host.Outcome State Fault Refusal := .next s.releaseReset

/-- LOW_TICKS_WRAP (R1, R2): the tick on which the low ticks wrap; at any other tick it changes nothing
(log entry 5). -/
def execLowTicksWrap (s : State) : Host.Outcome State Fault Refusal :=
  afterGrant s fun s => if s.wrapNext then s.tick else s

/-! ### Output lines (Table 0-2) -/

/-- TBCLK runs (R1). -/
def State.tbclkRuns (s : State) : Bool := !s.resetAsserted

/-- CHRST is active (1.7). -/
def State.chrst (s : State) : Bool := s.intake.phase == .restart

/-- READY (R177). -/
def State.ready (s : State) : Bool := s.port.response.isSome

/-- ALERT (R183); the report count is the one that STATUS shows, as the last completed operation left it
(R154, log entry 8). -/
def State.alert (s : State) : Bool := decide (0 < s.shownReports) || s.latches.any

/-- The bits that SDO carried during the last frame, in the order clocked (R192). -/
def State.sdoBits (s : State) : List Bool := s.port.sdo.flatMap byteBits

/-- ANOUT (R173, R191): 1 between frames; within a frame the bit of the character being sent, a bit
taking 2.5 ticks (log entry 17). -/
def State.anout (s : State) : Bool :=
  match s.annunciator.sending with
  | none => true
  | some f =>
    match f.characters[f.ticks / Config.characterTicks]? with
    | some ch => ch.getLsbD ((f.ticks % Config.characterTicks) * 2 / 5)
    | none => true

end Sys2Proof.Machine
end

