-- ==== Sys2Proof/Machine/Dispatch.lean ====
section
/-! DEFINITION. The meaning of each command, one arm for each row of the opcode table. -/

namespace Sys2Proof.Machine

def exec (i : Instr) (s : State) : Host.Outcome State Fault Refusal :=
  match i with
  | .reset => Sys2Proof.Machine.execReset s
  | .resetnRelease => Sys2Proof.Machine.execResetnRelease s
  | .lowTicksWrap => Sys2Proof.Machine.execLowTicksWrap s
  | .hitLaneHeader lane ch => Sys2Proof.Machine.execHitLaneHeader lane ch s
  | .hitLaneDataCharacter lane ch => Sys2Proof.Machine.execHitLaneDataCharacter lane ch s
  | .hitLaneCharacterError lane ch => Sys2Proof.Machine.execHitLaneCharacterError lane ch s
  | .mergeServe => Sys2Proof.Machine.execMergeServe s
  | .restartCountExpiry => Sys2Proof.Machine.execRestartCountExpiry s
  | .settleCountExpiry => Sys2Proof.Machine.execSettleCountExpiry s
  | .hitPlacement => Sys2Proof.Machine.execHitPlacement s
  | .eventExpiry => Sys2Proof.Machine.execEventExpiry s
  | .plinHeader ch => Sys2Proof.Machine.execPlinHeader ch s
  | .plinDataCharacter ch => Sys2Proof.Machine.execPlinDataCharacter ch s
  | .plinCharacterError ch => Sys2Proof.Machine.execPlinCharacterError ch s
  | .sampleTimeoutExpiry => Sys2Proof.Machine.execSampleTimeoutExpiry s
  | .sweepTimerExpiry => Sys2Proof.Machine.execSweepTimerExpiry s
  | .fold => Sys2Proof.Machine.execFold s
  | .sweepSlice => Sys2Proof.Machine.execSweepSlice s
  | .portGrant => Sys2Proof.Machine.execPortGrant s
  | .operationCompletion => Sys2Proof.Machine.execOperationCompletion s
  | .requestedDrainEnd => Sys2Proof.Machine.execRequestedDrainEnd s
  | .ruptureDrainEnd => Sys2Proof.Machine.execRuptureDrainEnd s
  | .lockExpiry => Sys2Proof.Machine.execLockExpiry s
  | .annunciatorFrameStart => Sys2Proof.Machine.execAnnunciatorFrameStart s
  | .responseRead r => Sys2Proof.Machine.execResponseRead r s
  | .status f => Sys2Proof.Machine.execStatus f s
  | .counters f => Sys2Proof.Machine.execCounters f s
  | .configRead f => Sys2Proof.Machine.execConfigRead f s
  | .configWrite f => Sys2Proof.Machine.execConfigWrite f s
  | .geometryWrite flags g value => Sys2Proof.Machine.execGeometryWrite flags g value s
  | .sampleTimeoutWrite flags value => Sys2Proof.Machine.execSampleTimeoutWrite flags value s
  | .lockLimitWrite flags value => Sys2Proof.Machine.execLockLimitWrite flags value s
  | .annEnableWrite flags value => Sys2Proof.Machine.execAnnEnableWrite flags value s
  | .sensorRead f => Sys2Proof.Machine.execSensorRead f s
  | .sensorWrite f => Sys2Proof.Machine.execSensorWrite f s
  | .start f => Sys2Proof.Machine.execStart f s
  | .stop f => Sys2Proof.Machine.execStop f s
  | .freeze f => Sys2Proof.Machine.execFreeze f s
  | .thaw f => Sys2Proof.Machine.execThaw f s
  | .engineReset f => Sys2Proof.Machine.execEngineReset f s
  | .restartChannels f => Sys2Proof.Machine.execRestartChannels f s
  | .setView f => Sys2Proof.Machine.execSetView f s
  | .lookup f => Sys2Proof.Machine.execLookup f s
  | .scan f => Sys2Proof.Machine.execScan f s
  | .changes f => Sys2Proof.Machine.execChanges f s
  | .seed f => Sys2Proof.Machine.execSeed f s
  | .mark f => Sys2Proof.Machine.execMark f s
  | .clearStats f => Sys2Proof.Machine.execClearStats f s
  | .retire f => Sys2Proof.Machine.execRetire f s
  | .unknownRequestCode bytes => Sys2Proof.Machine.execUnknownRequestCode bytes s

end Sys2Proof.Machine
end

