-- ==== Sys2Proof/Safety.lean ====
section
/-! DEFINITION. The laws of a sound state, in the terms that claims use. Each law holds at reset and is
meant to be kept by every step. -/

namespace Sys2Proof.Machine

/-! ### Capacities -/

/-- The bounded queues and the backlog stay within their sizes (R17, R23, R27, R35, R129). -/
structure CapacityLaw (s : State) : Prop where
  fifo : s.intake.fifo.length ≤ 32
  openSet : s.former.openSet.length ≤ 4
  members : ∀ e ∈ s.former.openSet, e.memberCount ≤ 8
  queue : s.former.queue.length ≤ 64
  backlog : s.sweep.backlog ≤ 15

/-! ### The Source Table -/

/-- The law of one record: its grade follows its state and met-set (R118), a record of grade 0 has its
report flag clear (R91), its ratio is at most 1999 (R112), its label is present exactly where it is seeded
(R88), and its channel list holds at most 4 distinct channels (R84). -/
structure RecordLaw (r : SourceRecord) : Prop where
  graded : r.grade = if r.tracked then min 3 r.met.count else 0
  reported : r.report = true → 0 < r.grade
  ratio : r.felicity.getD 0 ≤ 1999
  labelled : r.label.isSome = r.seeded
  channels : r.channels.Nodup ∧ r.channels.length ≤ 4

/-- The law of the table (R82): slot numbers rise and lie below 1024, no two live records have the same
key, and every record keeps its own law. -/
structure TableLaw (t : SourceTable) : Prop where
  rising : (t.slots.map (·.1)).Pairwise (· < ·)
  bounded : ∀ e ∈ t.slots, e.1 < 1024
  distinct : (t.slots.map (·.2.key)).Nodup
  records : ∀ e ∈ t.slots, RecordLaw e.2

/-! ### Zones -/

/-- The zone law (R169): every zone's live grade is at least the grade of every live, unmuted record
whose home channel is that zone. -/
def zonesCover (s : State) : Prop :=
  ∀ e ∈ s.table.slots, e.2.muted = false → e.2.grade ≤ s.zones[e.2.home].live

/-- What a pass in progress has built (R136): the building grade of a zone is at least the grade of every
unmuted record of that zone in a slot the pass has already visited. -/
def zonesBuilt (s : State) : Prop :=
  s.sweep.pass = true →
    ∀ e ∈ s.table.slots, e.1 < s.sweep.cursor → e.2.muted = false → e.2.grade ≤ s.zones[e.2.home].building

/-- The laws that keep the zone law over every step. -/
structure ZoneLaw (s : State) : Prop where
  table : TableLaw s.table
  cover : zonesCover s
  built : zonesBuilt s

/-! ### The rupture cutoff -/

/-- While a rupture is latched, no open event and no queue entry has a first-hit time later than the
cutoff (R163). -/
def CutoffLaw (s : State) : Prop :=
  ∀ c, s.monitor.cutoff = some c →
    (∀ e ∈ s.former.openSet, e.first.time ≤ c) ∧ ∀ e ∈ s.former.queue, e.firstHit ≤ c

/-! ### Run state -/

/-- A lane is shut while the settle phase is not DONE, CLOSED in SETUP, and open otherwise (R5). -/
def laneFits (s : State) (st : LaneState) : Prop :=
  if s.intake.phase = .done then
    if s.run.state = .setup then st = .closed else st.isOpen = true
  else st = .settling

/-- What the run state means to the other blocks (Table 9-1). -/
structure RunLaw (s : State) : Prop where
  /-- The flavour is present exactly in FREEZING and FROZEN (chapter 9). -/
  flavour : s.run.flavour.isSome = (s.run.state == .freezing || s.run.state == .frozen)
  /-- The sweep timer runs exactly in LISTENING (R128). -/
  timer : s.sweep.timer.isSome = (s.run.state == .listening)
  /-- In SETUP and FROZEN no pass is owed or in progress (R131). -/
  swept : s.run.state = .setup ∨ s.run.state = .frozen → s.sweep.backlog = 0 ∧ s.sweep.pass = false
  /-- In SETUP nothing is in flight between the lanes and the table (R47, R157). -/
  empty : s.run.state = .setup →
    s.intake.laneA.slot = none ∧ s.intake.laneB.slot = none ∧ s.intake.fifo = [] ∧
      s.former.openSet = [] ∧ s.former.queue = []
  laneA : laneFits s s.intake.laneA.state
  laneB : laneFits s s.intake.laneB.state
  /-- Every unmarked entry stands ahead of every marked one (R37). -/
  marksLast : s.former.queue.Pairwise fun a b => a.held = true → b.held = true
  /-- No entry is marked while the boundary is not in force (R36). -/
  unmarked : s.boundary = false → ∀ e ∈ s.former.queue, e.held = false
  /-- FREEZING with the REQUESTED flavour has not drained: the drain's end is part of the event that ends
  it (R160). -/
  requested : s.run.state = .freezing → s.run.flavour = some .requested → s.requestedDrained = false
  /-- FREEZING with the RUPTURE flavour has not drained (R164). -/
  rupture : s.run.state = .freezing → s.run.flavour = some .rupture → s.ruptureDrained = false

/-! ### Port and Arbiter -/

/-- The request in progress has been granted (R144). -/
def State.requestGranted (s : State) : Bool :=
  match s.port.request with
  | some { stage := .granted _ _, .. } => true
  | _ => false

/-- The port operation is in progress (R144). -/
def State.portBusyAtTable (s : State) : Bool :=
  match s.arbiter.operation with
  | some op => op.requester == .port
  | none => false

/-- One request at a time, and a lock that keeps folds and slices away (R143, R149, R151, R176). -/
structure PortLaw (s : State) : Prop where
  /-- A request in progress and a pending response never stand together. -/
  single : s.port.request.isSome = true → s.port.response = none
  granted : s.requestGranted = s.portBusyAtTable
  /-- While the lock is held, no fold or slice is in progress. -/
  locked : s.arbiter.locked = true → s.backgroundBusy = false
  /-- A forced release waits only for a PORT operation under the lock. -/
  breaking : s.arbiter.breaking = true → s.arbiter.locked = true ∧ s.portBusyAtTable = true
  recency : s.arbiter.recency.Perm [.port, .fold, .sweep]

/-! ### Configuration -/

/-- Every parameter lies in its range (Table 3-2, Table 11-4). -/
def ParamLaw (p : Params) : Prop := ∀ q : Param, (p.range q).1 ≤ p.get q ∧ p.get q ≤ (p.range q).2

/-- No two enabled channels share a ring and a column (R52). -/
def distinctPositions (sensors : Vector Sensor 64) : Prop :=
  ∀ c d : Channel, sensors[c].enabled = true → sensors[d].enabled = true →
    sensors[c].ring = sensors[d].ring → sensors[c].column = sensors[d].column → c = d

/-- The law of the sensor map (R52): no two enabled channels share a position, now or after the sensor
write that waits for its grant. -/
structure SensorLaw (s : State) : Prop where
  distinct : distinctPositions s.sensors
  waiting : ∀ hold c e, s.port.request = some { hold := hold, stage := .waiting (.sensor c e) } →
    s.sensorConflict c e = false

/-! ### Terms of the claims: when a command acts at once -/

/-- RESETn is released and no grant is owed. R144 makes every grant at once, so a command taken while one is owed
is taken after it, but for LOCK_EXPIRY (R151), ANNUNCIATOR_FRAME_START (R173), at a full Event Queue EVENT_EXPIRY
and HIT_PLACEMENT (R35), and a rupture before a fold (R168): `Obligations.GrantChosen` says so. -/
def State.steady (s : State) : Bool := !s.resetAsserted && s.grantChoice.isNone

/-! ### Terms of the claims: link characters -/

/-- The 12 bits carry a data byte and a marker as a sender sends them (R191): a start bit of 0, data bits 0 to 7,
the marker, a parity bit that makes the ones of the data bits, the marker and itself odd, and a stop bit of 1. -/
structure Carries (marker : Bool) (data : Byte) (ch : Character) : Prop where
  start : ch.getLsbD 0 = false
  bits : ∀ i, i < 8 → ch.getLsbD (i + 1) = data.getLsbD i
  marked : ch.getLsbD 9 = marker
  parity : ((List.range 10).map fun i => (ch.getLsbD (i + 1)).toNat).sum % 2 = 1
  stop : ch.getLsbD 11 = true

/-- The 12 bits are a character error (R4): a start bit of 0, and a parity or a stop bit that is wrong. -/
def Faulty (ch : Character) : Prop :=
  ch.getLsbD 0 = false ∧
    (((List.range 10).map fun i => (ch.getLsbD (i + 1)).toNat).sum % 2 = 0 ∨ ch.getLsbD 11 = false)

/-- The character completes a valid sample that meets the rupture test (R65, R67, R77). -/
def State.RuptureBy (s : State) (ch : Character) : Prop :=
  ∃ low high flags : Byte, ∃ q, Carries false flags ch ∧ s.plin.state = .accepting [low, high] ∧
    flags.getLsbD 0 = true ∧ s.run.state ≠ .setup ∧ s.monitor.cutoff = none ∧ s.monitor.current = some q ∧
    s.params.ruptureFloor ≤ q ∧ low.toNat + 256 * high.toNat + s.params.ruptureDrop ≤ q

/-! ### Terms of the claims: requests and their answers -/

/-- The port can take a request frame (R176, R179): no request is in progress and no response is pending. -/
def State.portReady (s : State) : Bool := s.steady && s.port.request.isNone && s.port.response.isNone

/-- A port request that needs the table would be granted at once (R144, R146): no operation is in progress,
no forced release waits for one, and the lock is held or neither FOLD nor SWEEP requests. -/
def State.tableIdle (s : State) : Bool :=
  s.arbiter.operation.isNone && !s.arbiter.breaking &&
    (s.arbiter.locked || (!s.foldRequests && !s.sweepRequests))

/-- A state in which the request of a frame has been answered without the table (R150, R176, R178): the
filler of the frame on SDO, the response pending with the LOCK_LOST that was pending, and the lock kept
only under HOLD. -/
def State.answered (s : State) (f : Frame) (status : Status) (payload : Payload) : State :=
  { s with
    port := { s.port with
      request := none
      response := some { status := status, lockLost := s.arbiter.lockLost, payload := payload }
      sdo := List.replicate (3 + f.payload.length) 0xFF }
    arbiter := { s.arbiter with
      lockLost := false
      locked := f.hold && s.arbiter.locked
      breaking := f.hold && s.arbiter.breaking } }

/-- A state in which the request of a frame waits for its grant as the PORT requester (R143, R176): the filler of
the frame on SDO, and the request in progress. -/
def State.asked (s : State) (f : Frame) (work : TableWork) : State :=
  { s with
    port := { s.port with
      request := some { hold := f.hold, stage := .waiting work }
      sdo := List.replicate (3 + f.payload.length) 0xFF } }

/-- A state in which the request that waited has been granted, worked and answered (R144, R145, R148 to R150,
R176): the response pending with the LOCK_LOST that was pending, PORT at the front of the recency order, the
starvation count 0, and the lock held exactly under HOLD, acquired now where it was free. -/
def State.granted (s : State) (hold : Bool) (status : Status) (payload : Payload) : State :=
  { s with
    port := { s.port with
      request := none
      response := some { status := status, lockLost := s.arbiter.lockLost, payload := payload } }
    arbiter := { s.arbiter with
      recency := .port :: s.arbiter.recency.filter (· != .port)
      starvation := 0
      lockLost := false
      locked := hold
      acquired := if hold && !s.arbiter.locked then s.now else s.arbiter.acquired
      breaking := false } }

/-- A state in which the request of a frame has been taken, granted, worked and answered: as `granted`, with the
filler of the frame on SDO. -/
def State.served (s : State) (f : Frame) (status : Status) (payload : Payload) : State :=
  ({ s with port := { s.port with sdo := List.replicate (3 + f.payload.length) 0xFF } }).granted f.hold
    status payload

/-- A request command that is taken, granted and completed, and the state this leaves (R176). -/
def Serves (request : Instr) (s u : State) : Prop :=
  ∃ t g, exec request s = .next t ∧ exec .portGrant t = .next g ∧
    exec .operationCompletion g = .next u

/-- A table request from its frame to its response (R143, R144, R176, R188). It is taken and waits for its grant,
whether or not an operation is in progress and whoever else requests; at an idle table PORT is chosen at once. In
every state in which it waits and PORT is chosen, its grant and the completion leave the answer, which rests on
that state. -/
def ServedAtGrant (request : Instr) (f : Frame) (s : State) (answer : State → State → Prop) : Prop :=
  ∃ work, exec request s = .next (s.asked f work) ∧
    (s.tableIdle = true → (s.asked f work).grantChoice = some .port) ∧
    ∀ w : State, w.resetAsserted = false → w.arbiter.breaking = false →
      w.port.request = some { hold := f.hold, stage := .waiting work } → w.grantChoice = some .port →
      ∃ g u, exec .portGrant w = .next g ∧ exec .operationCompletion g = .next u ∧ answer w u

/-! ### Terms of the claims: events -/

/-- An open event is a candidate for a hit (R26). -/
def isCandidate (w : Nat) (d : Descriptor) (e : OpenEvent) : Bool :=
  decide (d.time ≤ e.first.time + w) && decide (e.first.time ≤ d.time + w) && !e.hasChannel d.channel

/-- The event at a place of the Open Event Set is the candidate that a hit is offered to (R26). -/
def State.Chosen (s : State) (d : Descriptor) (i : Nat) (e : OpenEvent) : Prop :=
  s.former.openSet[i]? = some e ∧ isCandidate s.params.w d e = true ∧
    ∀ j, ∀ h : j < s.former.openSet.length, isCandidate s.params.w d s.former.openSet[j] = true →
      e.first.time < s.former.openSet[j].first.time ∨
        (e.first.time = s.former.openSet[j].first.time ∧ i ≤ j)

/-- The hit is at or before the cutoff, or no rupture is latched (R25). -/
def State.beforeCutoff (s : State) (d : Descriptor) : Bool :=
  match s.monitor.cutoff with
  | some c => decide (d.time ≤ c)
  | none => true

/-- The open event that a hit makes (R31). -/
def State.eventOf (s : State) (d : Descriptor) : OpenEvent :=
  { first := d
    rest := []
    expiry := d.time + s.params.w + s.params.settle
    context :=
      { pressure := s.monitor.current, phase := s.monitor.phase, cycle := s.monitor.cycle
        hold := s.monitor.holdIndex, priorPeak := s.monitor.priorPeak }
    early := false }

/-- The state after the close of an event, with the Open Event Set it leaves (R34 to R36): the event is
located and counted, and its located form appended to the Event Queue, or dropped where 64 stand there. -/
def State.closed (s : State) (openSet : List OpenEvent) (e : OpenEvent) : State :=
  let loc := s.locate e.first e.rest
  let full := decide (64 ≤ s.former.queue.length)
  { s with
    former := { s.former with
      openSet := openSet
      formed := bump s.former.formed
      zonals := if loc.quality = .zonal then bump s.former.zonals else s.former.zonals
      queue := if full then s.former.queue else s.former.queue ++
        [{ firstHit := e.first.time, channel := e.first.channel, members := e.rest.length + 1
           quality := loc.quality, z := loc.z, x := loc.x, cell := loc.cell
           amplitude := e.first.amplitude, energy := e.first.energy
           context := e.context, early := e.early, held := s.boundary }]
      eventDrops := if full then bump s.former.eventDrops else s.former.eventDrops }
    latches := { s.latches with queueDrop := s.latches.queueDrop || full } }

/-! ### Terms of the claims: parameters -/

/-- A row of the parameter tables (Tables 11-4 and 12-7) at some parameters: the code, the ends of the range, the
value that is stored, and the parameters with another value stored. -/
structure ParamRow where
  code : Nat
  low : Nat
  high : Nat
  stored : Nat
  store : Nat → Params

/-! ### Terms of the claims: locations -/

/-- The partner that the Locator chooses among the other members (R55): the earliest of those on a neighbour
of the kind, the one that stands earlier where two are equally early; none where there is none. -/
def IsPartner (rest : List Descriptor) (onNeighbour : Descriptor → Prop) : Option Descriptor → Prop
  | none => ∀ m ∈ rest, ¬onNeighbour m
  | some d => ∃ before after, rest = before ++ d :: after ∧ onNeighbour d ∧
      (∀ m ∈ before, onNeighbour m → d.time < m.time) ∧ ∀ m ∈ after, onNeighbour m → d.time ≤ m.time

/-! ### Terms of the claims: slots -/

/-- The lowest-numbered free slot (R83). -/
def SourceTable.LowestFree (t : SourceTable) (slot : Nat) : Prop :=
  slot < 1024 ∧ t.at? slot = none ∧ ∀ n, n < slot → (t.at? n).isSome = true

/-- Every slot holds a record (R82). -/
def SourceTable.Full (t : SourceTable) : Prop := ∀ n, n < 1024 → (t.at? n).isSome = true

/-- No record is a candidate for eviction (R93). -/
def SourceTable.NoCandidate (t : SourceTable) : Prop := ∀ q ∈ t.slots, q.2.grade = 0 → q.2.pinned = true

/-- The record `a` is chosen before the record `b` (R93): more idle sweeps, then the older last-event time, an
absent one the oldest, then the lower key. -/
def SourceRecord.Outranks (a b : SourceRecord) : Prop :=
  b.idleSweeps < a.idleSweeps ∨ (a.idleSweeps = b.idleSweeps ∧
    ((a.lastTime = none ∧ b.lastTime ≠ none) ∨
      (∃ x y, a.lastTime = some x ∧ b.lastTime = some y ∧ x < y) ∨
      (a.lastTime = b.lastTime ∧ (a.key.axial < b.key.axial ∨
        (a.key.axial = b.key.axial ∧ a.key.circ < b.key.circ)))))

/-- The candidate that an eviction takes, and its slot (R93). -/
def SourceTable.Victim (t : SourceTable) (slot : Nat) (v : SourceRecord) : Prop :=
  (slot, v) ∈ t.slots ∧ v.grade = 0 ∧ v.pinned = false ∧
    ∀ q ∈ t.slots, q.2.grade = 0 → q.2.pinned = false → q = (slot, v) ∨ v.Outranks q.2

/-! ### Terms of the claims: table operations -/

/-- The Event Queue splits around the entry that a fold removes (R37). -/
def State.FoldTakes (s : State) (before : List LocatedEvent) (e : LocatedEvent) (after : List LocatedEvent) :
    Prop :=
  s.former.queue = before ++ e :: after ∧
    ((s.run.state = .listening ∧ before = []) ∨
      (s.run.state = .freezing ∧ (∀ q ∈ before, q.held = true) ∧ e.held = false))

/-- A fold in progress (R144), and what its completion will count (log entry 8): an event left unplaced, or an
eviction. -/
def State.foldInProgress (s : State) (unplaced evicted : Bool) : Operation :=
  { requester := .fold, liveBefore := s.table.liveCount, reportBefore := s.table.reportCount
    tookEntry := true, endsPass := false, unplaced := unplaced, evicted := evicted, autoRetired := 0 }

/-- A slice in progress (R144), and what its completion will do (log entry 8): lower the backlog, where it ended
the pass, and count the records it retired. -/
def State.sliceInProgress (s : State) (endsPass : Bool) (autoRetired : Nat) : Operation :=
  { requester := .sweep, liveBefore := s.table.liveCount, reportBefore := s.table.reportCount
    tookEntry := false, endsPass := endsPass, unplaced := false, evicted := false
    autoRetired := autoRetired }

/-- The Arbiter after a grant to FOLD or SWEEP (R144, R145, R148). -/
def State.backgroundGranted (s : State) (r : Requester) (op : Operation) : Arbiter :=
  { s.arbiter with
    operation := some op
    recency := r :: s.arbiter.recency.filter (· != r)
    starvation :=
      if s.portRequests then min 255 (s.arbiter.starvation + 1) else s.arbiter.starvation }

/-- The zones after an operation raised a record from the grade it found, and the record as it is put back
(R119). -/
def raisedZones (zones : Vector Zone 64) (r : SourceRecord) (found : Nat) : Vector Zone 64 :=
  if found < r.grade ∧ r.muted = false then
    zones.set r.home
      { zones[r.home] with
        live := max zones[r.home].live r.grade
        building := max zones[r.home].building r.grade }
  else zones

/-- The record as an operation that found a grade puts it back (R119): its report flag set at a raise. -/
def raisedRecord (r : SourceRecord) (found : Nat) : SourceRecord :=
  { r with report := r.report || (decide (found < r.grade) && !r.muted) }

/-- The slot at which the slice of a grant begins (R132). -/
def Sweep.sliceStart (w : Sweep) : Nat := if w.pass then w.cursor else 0

/-- The visit retires the record (R99, R135): steps 1 to 4 leave it at grade 0, it is not pinned, and its idle
sweeps have reached RETIRE_IDLE. -/
def SourceRecord.retiredByVisit (p : Params) (r : SourceRecord) : Bool :=
  decide ((r.visit p).grade = 0) && !r.pinned && decide (p.retireIdle ≤ (r.visit p).idleSweeps)

/-- How many records the visits of `n` slots from a slot retire (R135). -/
def SourceTable.retiredIn (t : SourceTable) (p : Params) (slot : Nat) : (n : Nat) → Nat
  | 0 => 0
  | n + 1 =>
    (match t.at? slot with
      | some r => if r.retiredByVisit p then 1 else 0
      | none => 0) + t.retiredIn p (slot + 1) n

/-- What the visits of some slots make of a table and of the zones (R132 to R136): `a` and `y` before them,
`b` and `z` after them. -/
structure Visited (p : Params) (visited : Nat → Prop) (a b : SourceTable) (y z : Vector Zone 64) : Prop where
  /-- A slot that is not visited holds what it held. -/
  other : ∀ n, ¬visited n → b.at? n = a.at? n
  /-- A free slot stays free. -/
  free : ∀ n, visited n → a.at? n = none → b.at? n = none
  /-- A record that the visit retires leaves its slot free. -/
  retired : ∀ n r, visited n → a.at? n = some r → r.retiredByVisit p = true → b.at? n = none
  /-- Every other visited record stands visited in its slot, a raise of an unmuted one reported. -/
  kept : ∀ n r, visited n → a.at? n = some r → r.retiredByVisit p = false →
    b.at? n = some (raisedRecord (r.visit p) r.grade)
  /-- The table's counters wait for the slice's completion: the model's reading (log entry 8). -/
  counters : b.unplaced = a.unplaced ∧ b.autoRetired = a.autoRetired ∧ b.evicted = a.evicted
  /-- A raise of an unmuted record raises the live grade of its zone. -/
  raises : ∀ n r, visited n → a.at? n = some r → r.muted = false → r.grade < (r.visit p).grade →
    (r.visit p).grade ≤ z[r.home].live
  /-- Nothing else does: a live grade is what it was, or the grade of such a record, above what it was. -/
  live : ∀ c : Channel, z[c].live = y[c].live ∨ (y[c].live < z[c].live ∧
    ∃ n r, visited n ∧ a.at? n = some r ∧ r.muted = false ∧ r.home = c ∧
      r.grade < (r.visit p).grade ∧ z[c].live = (r.visit p).grade)
  /-- An unmuted record that stays raises the building grade of its zone. -/
  builds : ∀ n r, visited n → a.at? n = some r → r.retiredByVisit p = false → r.muted = false →
    (r.visit p).grade ≤ z[r.home].building
  /-- Nothing else does. -/
  building : ∀ c : Channel, z[c].building = y[c].building ∨ (y[c].building < z[c].building ∧
    ∃ n r, visited n ∧ a.at? n = some r ∧ r.retiredByVisit p = false ∧ r.muted = false ∧ r.home = c ∧
      z[c].building = (r.visit p).grade)
  unlocated : ∀ c : Channel, z[c].unlocated = y[c].unlocated

/-- What a fold or slice counts and latches (R95, R105, R135), and the backlog less a pass that it ended (R137), at
its completion: the model's reading of when (log entry 8). -/
def State.finished (s : State) (op : Operation) : State :=
  { s with
    sweep := { s.sweep with backlog := if op.endsPass then s.sweep.backlog - 1 else s.sweep.backlog }
    table := { s.table with
      unplaced := min 65535 (s.table.unplaced + if op.unplaced then 1 else 0)
      autoRetired := min 65535 (s.table.autoRetired + op.autoRetired)
      evicted := min 65535 (s.table.evicted + if op.evicted then 1 else 0) }
    latches := { s.latches with tableFull := s.latches.tableFull || op.unplaced } }

/-! ### Terms of the claims: the bytes of a response -/

/-- The field of some bytes at an offset, least significant byte first. -/
def fieldAt (b : List Byte) (offset count : Nat) : Nat := bytesToNat ((b.drop offset).take count)

/-- The bytes of a record (R194, Table 12-9). -/
structure RecordLayout (r : SourceRecord) (b : List Byte) : Prop where
  size : b.length = 56
  axial : fieldAt b 0 1 = r.key.axial % 256
  circ : fieldAt b 1 1 = r.key.circ % 256
  /-- TRACKED, MUTED, PINNED, SEEDED and the report flag from bit 0 on. -/
  flags : fieldAt b 2 1 = r.tracked.toNat + 2 * r.muted.toNat + 4 * r.pinned.toNat + 8 * r.seeded.toNat +
    16 * r.report.toNat
  presence : fieldAt b 3 1 = r.label.isSome.toNat + 2 * r.firstTime.isSome.toNat +
    4 * r.lastTime.isSome.toNat + 8 * r.firstPressure.isSome.toNat + 16 * r.onsetPressure.isSome.toNat +
    32 * r.felicity.isSome.toNat
  label : fieldAt b 4 2 = r.label.getD 0 % 2 ^ 16
  channelCount : fieldAt b 6 1 = (1 + r.others.length) % 256
  /-- The home channel first; places beyond the count carry 0xFF. -/
  channels : ∀ i, i < 4 → fieldAt b (7 + i) 1 =
    match (r.home :: r.others)[i]? with
    | some c => c.val
    | none => 255
  events : fieldAt b 11 3 = r.events % 2 ^ 24
  fulls : fieldAt b 14 3 = r.fulls % 2 ^ 24
  energySum : fieldAt b 17 4 = r.energySum % 2 ^ 32
  peakAmplitude : fieldAt b 21 1 = r.peakAmplitude % 256
  highAmps : fieldAt b 22 2 = r.highAmps % 2 ^ 16
  firstTime : fieldAt b 24 6 = r.firstTime.getD 0 % 2 ^ 48
  lastTime : fieldAt b 30 6 = r.lastTime.getD 0 % 2 ^ 48
  firstPressure : fieldAt b 36 2 = r.firstPressure.getD 0 % 2 ^ 16
  onsetCycle : fieldAt b 38 2 = r.onsetCycle % 2 ^ 16
  onsetPressure : fieldAt b 40 2 = r.onsetPressure.getD 0 % 2 ^ 16
  felicity : fieldAt b 42 2 = r.felicity.getD 0 % 2 ^ 16
  holdSeen : fieldAt b 44 2 = r.holdSeen % 2 ^ 16
  holdCurrent : fieldAt b 46 1 = r.holdCurrent % 256
  holdTotal : fieldAt b 47 2 = r.holdTotal % 2 ^ 16
  activity : fieldAt b 49 2 = r.activity % 2 ^ 16
  sinceSweep : fieldAt b 51 2 = r.sinceSweep % 2 ^ 16
  idleSweeps : fieldAt b 53 1 = r.idleSweeps % 256
  /-- FELICITY, HOLD, ACTIVITY and INTENSITY from bit 0 on. -/
  met : fieldAt b 54 1 = r.met.felicity.toNat + 2 * r.met.hold.toNat + 4 * r.met.activity.toNat +
    8 * r.met.intensity.toNat
  grade : fieldAt b 55 1 = r.grade % 256

/-- The bytes of a STATUS payload (R194, Table 12-10). -/
structure StatusLayout (r : StatusReport) (b : List Byte) : Prop where
  size : b.length = 23
  run : fieldAt b 0 1 =
    match r.run with
    | .setup => 0
    | .listening => 1
    | .freezing => 2
    | .frozen => 3
  flavour : fieldAt b 1 1 =
    match r.flavour with
    | none => 0
    | some .requested => 1
    | some .rupture => 2
  lanes : ∀ l, fieldAt b (match l with | .a => 2 | .b => 3) 1 =
    match (match l with | Lane.a => r.laneA | Lane.b => r.laneB) with
    | .closed => 0
    | .settling => 1
    | .hunting => 2
    | .accepting _ => 3
    | .ignoring => 4
  presence : fieldAt b 4 1 = r.cutoff.isSome.toNat + 2 * r.pressure.isSome.toNat + 4 * r.locked.toNat
  cutoff : fieldAt b 5 6 = r.cutoff.getD 0 % 2 ^ 48
  phase : fieldAt b 11 1 =
    match r.phase with
    | .noPressure => 0
    | .loading => 1
    | .holding => 2
    | .unloading => 3
  pressure : fieldAt b 12 2 = r.pressure.getD 0 % 2 ^ 16
  cycle : fieldAt b 14 2 = r.cycle % 2 ^ 16
  liveCount : fieldAt b 16 2 = r.liveCount % 2 ^ 16
  reportCount : fieldAt b 18 2 = r.reportCount % 2 ^ 16
  backlog : fieldAt b 20 1 = r.backlog % 256
  queueDepth : fieldAt b 21 1 = r.queueDepth % 256
  /-- RUPTURE, FROZEN_REACHED, TABLE_FULL, QUEUE_DROP, SWEEP_LOST, LOCK_BROKEN, PRESSURE_STALE and LINK_ERROR
  from bit 0 on. -/
  latches : fieldAt b 22 1 = r.latches.rupture.toNat + 2 * r.latches.frozenReached.toNat +
    4 * r.latches.tableFull.toNat + 8 * r.latches.queueDrop.toNat + 16 * r.latches.sweepLost.toNat +
    32 * r.latches.lockBroken.toNat + 64 * r.latches.pressureStale.toNat + 128 * r.latches.linkError.toNat

/-- The bytes of a response payload (R193, R194, Table 12-8). -/
def PayloadLayout : Payload → List Byte → Prop
  | .none, b => b = []
  | .status r, b => StatusLayout r b
  | .counters values, b => b.length = 2 * values.length ∧
      ∀ i, ∀ h : i < values.length, fieldAt b (2 * i) 2 = values[i] % 2 ^ 16
  | .config q v, b => b.length = 3 ∧ fieldAt b 0 1 = paramCode q ∧ fieldAt b 1 2 = v % 2 ^ 16
  | .sensor c e fault, b => b.length = 5 ∧ fieldAt b 0 1 = c.val ∧ fieldAt b 1 1 = e.ring.val ∧
      fieldAt b 2 1 = e.column.val ∧ fieldAt b 3 1 = e.enabled.toNat + 2 * fault.faulted.toNat ∧
      fieldAt b 4 1 = fault.code.toNat
  | .view k, b => b.length = 2 ∧ fieldAt b 0 1 = k.axial % 256 ∧ fieldAt b 1 1 = k.circ % 256
  | .record r, b => RecordLayout r b
  | .scan rs more next, b => b.length = 4 + 56 * rs.length ∧ fieldAt b 0 1 = rs.length % 256 ∧
      fieldAt b 1 1 = more.toNat + 2 * next.isSome.toNat ∧
      fieldAt b 2 1 = (next.map CellKey.axial).getD 0 % 256 ∧
      fieldAt b 3 1 = (next.map CellKey.circ).getD 0 % 256 ∧
      ∀ i, ∀ h : i < rs.length, RecordLayout rs[i] ((b.drop (4 + 56 * i)).take 56)
  | .changes rs more, b => b.length = 2 + 56 * rs.length ∧ fieldAt b 0 1 = rs.length % 256 ∧
      fieldAt b 1 1 = more.toNat ∧
      ∀ i, ∀ h : i < rs.length, RecordLayout rs[i] ((b.drop (2 + 56 * i)).take 56)

/-- The bytes of a response (R192, Tables 12-4 and 12-6), COLLIDED given. -/
def ResponseLayout (r : Response) (collided : Bool) (b : List Byte) : Prop :=
  4 ≤ b.length ∧
    fieldAt b 0 1 =
      (match r.status with
        | .ok => 0x00
        | .adjusted => 0x01
        | .ignored => 0x02
        | .notFound => 0x10
        | .exists => 0x11
        | .full => 0x12
        | .state => 0x13
        | .outOfGrid => 0x14
        | .conflict => 0x15
        | .badRequest => 0x16) ∧
    fieldAt b 1 1 = r.lockLost.toNat + 2 * collided.toNat ∧
    fieldAt b 2 2 = (b.drop 4).length % 2 ^ 16 ∧ PayloadLayout r.payload (b.drop 4)

end Sys2Proof.Machine
end

