-- ==== Sys2Proof/Certificates/Slice0/Obligations.lean ====
section
/-! DEFINITION. The statements about the part, for the provers. Each names the rules of spec/ it rests on;
OBLIGATIONS.json lists them. -/

open Sys2Proof Sys2Proof.Machine

/-! ### The machine -/

/-- One step takes the command at the front of the queue and runs it with the queue's rest (log entry 1). -/
def Obligations.StepTakesFront : Prop :=
  ∀ (c : Instr) (rest : List Instr) (s : State), s.pending = c :: rest →
    step s = exec c { s with pending := rest }

/-- After RESET: the timebase 0, with TBMARK low (the model's, log entry 14); CHRST, READY and ALERT inactive;
the settle interval begun, both lanes SETTLING with empty slots, the FIFO empty, lane B served last; no channel accepted, faulted or enabled, every zone 0; no event open or queued;
PLIN hunting and the Monitor as Table 4-1 gives it; the table empty; the sweep timer stopped, no pass owed or in
progress; the Arbiter as Table 8-1 gives it; SETUP with no flavour; the annunciator timer at 0 of 200,000
ticks; the port idle with view base (0, 0); every latch clear, every counter 0 and every parameter at its
default of Table 11-4. -/
def Obligations.ResetValues : Prop :=
  State.reset.now = 0 ∧ State.reset.tbmark = false ∧ State.reset.chrst = false ∧
  State.reset.ready = false ∧ State.reset.alert = false ∧
  State.reset.intake.phase = .settle ∧ State.reset.intake.settleCount = 0 ∧
  State.reset.intake.laneA.state = .settling ∧ State.reset.intake.laneB.state = .settling ∧
  State.reset.intake.laneA.slot = none ∧ State.reset.intake.laneB.slot = none ∧
  State.reset.intake.fifo = [] ∧ State.reset.intake.lastServed = .b ∧
  (∀ c : Channel, State.reset.accepted c = false ∧
    State.reset.intake.faults[c] = { faulted := false, code := 0 } ∧
    State.reset.sensors[c] = { ring := 0, column := 0, enabled := false } ∧
    State.reset.zones[c] = { live := 0, building := 0, unlocated := 0 }) ∧
  State.reset.former.openSet = [] ∧ State.reset.former.queue = [] ∧
  State.reset.plin.state = .hunting ∧
  State.reset.monitor =
    { current := none, stamp := 0, phase := .noPressure, cycle := 1, cyclePeak := 0, priorPeak := 0
      trough := 0, holdRef := 0, holdCount := 0, holdIndex := 0, cutoff := none } ∧
  State.reset.table.slots = [] ∧
  State.reset.sweep.timer = none ∧ State.reset.sweep.backlog = 0 ∧
  State.reset.sweep.pass = false ∧ State.reset.sweep.cursor = 0 ∧
  State.reset.arbiter =
    { operation := none, recency := [.fold, .sweep, .port], starvation := 0, locked := false
      acquired := 0, breaking := false, lockLost := false } ∧
  State.reset.run = { state := .setup, flavour := none } ∧
  State.reset.boundary = false ∧
  State.reset.annunciator = { timer := some { elapsed := 0, interval := 200000 }, sending := none } ∧
  State.reset.port.request = none ∧ State.reset.port.response = none ∧
  State.reset.port.collision = false ∧ State.reset.port.view = { axial := 0, circ := 0 } ∧
  State.reset.latches.any = false ∧ State.reset.counterValues = List.replicate 28 0 ∧
  State.reset.params =
    { length := 6000, circ := 3770, cell := 100
      ringPos := Vector.replicate 16 0, colPos := Vector.replicate 16 0
      vel := 307, w := 2000, settle := 20000, minDuration := 4, maxDuration := 20000, maxRise := 150
      zonalFold := 0, holdBand := 5, holdSamples := 2000, unloadDelta := 50, reloadDelta := 20
      ruptureDrop := 500, ruptureFloor := 1000, sampleTimeout := 200, confirm := 3, highAmp := 80
      highAmpLimit := 5, holdLimit := 3, felicityLimit := 950, actHigh := 160, retireIdle := 32
      sweepInterval := 1000, policy := 0, starveLimit := 8, lockLimit := 100, annEnable := 1
      annPeriod := 200 }

/-- RESET puts every block in its after-RESET state whatever it finds, and the release of RESETn starts the
part from there; the queue of waiting commands, which is the model's own, is kept. TBCLK stops with RESETn
asserted, and runs in every state in which it is released; ANOUT is 1 from either command on (R1, R173). While
RESETn is asserted no other command changes anything (log entry 4, the model's reading of R1). -/
def Obligations.ResetRestartsThePart : Prop :=
  ∀ s : State,
    let asserted : State := { State.reset with pending := s.pending, resetAsserted := true }
    let released : State := { State.reset with pending := s.pending }
    exec .reset s = .next asserted ∧ asserted.tbclkRuns = false ∧ asserted.anout = true ∧
    (s.tbclkRuns = true ↔ s.resetAsserted = false) ∧
    (s.resetAsserted = true →
      exec .resetnRelease s = .next released ∧ released.tbclkRuns = true ∧ released.anout = true ∧
      ∀ c : Instr, c ≠ .reset → c ≠ .resetnRelease → exec c s = .next s)

/-- The tick (R1, R2, R19, R20, R128, R173): the timebase goes on by one modulo 2^48, TBMARK is driven where the
low ticks become 0, the counts, timers and frame that run go on by one, and nothing else changes.
LOW_TICKS_WRAP at the last low tick is that tick, where no grant is owed. How the part acts by itself, at a step
with an empty queue, is the model's reading (log entries 2, 3 and 24). A grant that is owed is queued alone, and
no tick passes (R144). Else, where expiries are due, they are queued, in a fixed order, and no tick passes. Where
none is due, the tick passes, or LOW_TICKS_WRAP is queued where it is the next one, and the part's own work of
the tick is queued: a merge service, a placement and a completion. -/
def Obligations.TimebaseCounts : Prop :=
  ∀ s : State, s.resetAsserted = false →
    let timer := fun (x : Timer) => { x with elapsed := x.elapsed + 1 }
    let ticked : State :=
      { s with
        now := (s.now + 1) % 2 ^ 48
        tbmark := decide ((s.now + 1) % 2 ^ 32 = 0)
        intake := { s.intake with
          restartCount :=
            if s.intake.phase = .restart then s.intake.restartCount + 1 else s.intake.restartCount
          settleCount :=
            if s.intake.phase = .settle then s.intake.settleCount + 1 else s.intake.settleCount }
        sweep := { s.sweep with timer := s.sweep.timer.map timer }
        annunciator :=
          { timer := s.annunciator.timer.map timer
            sending := s.annunciator.sending.bind fun f =>
              if f.ticks + 1 < 990 then some { f with ticks := f.ticks + 1 } else none } }
    let due : List Instr :=
      (if s.intake.phase = .restart ∧ 5120 ≤ s.intake.restartCount then [.restartCountExpiry] else []) ++
      (if s.intake.phase = .settle ∧ 2 ^ 20 ≤ s.intake.settleCount then [.settleCountExpiry] else []) ++
      (if s.monitor.current.isSome = true ∧
          (s.params.sampleTimeout * 1000 : Int) ≤ ((s.now : Int) - s.monitor.stamp) % 2 ^ 48 then
        [.sampleTimeoutExpiry] else []) ++
      (if ∃ e ∈ s.former.openSet, e.expiry ≤ s.now then [.eventExpiry] else []) ++
      (if (s.sweep.timer.any fun x => decide (x.interval ≤ x.elapsed)) = true then
        [.sweepTimerExpiry] else []) ++
      (if s.arbiter.locked = true ∧ s.arbiter.breaking = false ∧
          (s.params.lockLimit * 1000 : Int) ≤ ((s.now : Int) - s.arbiter.acquired) % 2 ^ 48 then
        [.lockExpiry] else []) ++
      (if (s.annunciator.timer.any fun x => decide (x.interval ≤ x.elapsed)) = true then
        [.annunciatorFrameStart] else [])
    let work : List Instr :=
      (if s.intake.laneA.slot = none ∧ s.intake.laneB.slot = none then [] else [.mergeServe]) ++
      (if s.intake.fifo = [] then [] else [.hitPlacement]) ++
      (if s.arbiter.operation = none then [] else [.operationCompletion])
    (s.now % 2 ^ 32 = 2 ^ 32 - 1 → s.grantChoice = none → exec .lowTicksWrap s = .next ticked) ∧
    (s.pending = [] → ∀ r, s.grantChoice = some r → step s = .next
      { s with pending := [match r with | .port => .portGrant | .fold => .fold | .sweep => .sweepSlice] }) ∧
    (s.pending = [] → s.grantChoice = none →
      (due ≠ [] → step s = .next { s with pending := due }) ∧
      (due = [] → s.now % 2 ^ 32 = 2 ^ 32 - 1 → step s = .next { s with pending := .lowTicksWrap :: work }) ∧
      (due = [] → s.now % 2 ^ 32 ≠ 2 ^ 32 - 1 → step s = .next { ticked with pending := work }))

/-! ### Hit Intake -/

/-- A good header taken on an open hit lane (R4, R6, R7, R191, Table 12-1): a frame in progress is ended and counted FRAGMENT;
then the lane is ACCEPTING with a new frame for an accepted channel, IGNORING and counted FOREIGN for
another, IGNORING and counted MALFORMED for the pressure and the unused kind. Nothing else changes. -/
def Obligations.HeaderTaken : Prop :=
  ∀ (l : Lane) (ch : Character) (b : Byte) (s : State), Carries true b ch → s.steady = true →
    (s.intake.lane l).state.isOpen = true →
    exec (.hitLaneHeader l ch) s = .next (s.updLane l fun r =>
      let c : Channel := ⟨b.toNat % 64, by omega⟩
      let fragments :=
        match r.state with
        | .accepting _ => bump r.fragments
        | _ => r.fragments
      match b.toNat / 64, s.accepted c with
      | 0, true =>
        { r with state := .accepting { kind := .hit, channel := c, bytes := [] }, fragments := fragments }
      | 1, true =>
        { r with state := .accepting { kind := .fault, channel := c, bytes := [] }, fragments := fragments }
      | 0, false =>
        { r with state := .ignoring, fragments := fragments, foreigns := bump r.foreigns }
      | 1, false =>
        { r with state := .ignoring, fragments := fragments, foreigns := bump r.foreigns }
      | _, _ => { r with state := .ignoring, fragments := fragments, malformeds := bump r.malformeds })

/-- A good data character on an open hit lane that does not complete a frame (R4, R6, R7, R191): appended to the
frame in progress in ACCEPTING, and ignored in HUNTING and IGNORING. 12 bits without a start bit of 0, which are no
character (R4), change nothing on either lane, whatever command they come as: the model's reading (log entry 15). -/
def Obligations.DataCharacterTaken : Prop :=
  ∀ (l : Lane) (ch : Character) (s : State), s.steady = true →
    (∀ b, Carries false b ch →
      (∀ fr, (s.intake.lane l).state = .accepting fr →
        fr.bytes.length + 1 < (match fr.kind with | .hit => 10 | .fault => 1) →
        exec (.hitLaneDataCharacter l ch) s = .next (s.updLane l fun r =>
          { r with state := .accepting { fr with bytes := fr.bytes ++ [b] } })) ∧
      ((s.intake.lane l).state = .hunting ∨ (s.intake.lane l).state = .ignoring →
        exec (.hitLaneDataCharacter l ch) s = .next s)) ∧
    (ch.getLsbD 0 = true →
      exec (.hitLaneHeader l ch) s = .next s ∧ exec (.hitLaneDataCharacter l ch) s = .next s ∧
        exec (.hitLaneCharacterError l ch) s = .next s)

/-- The tenth data character of a hit frame (R7, 1.5, R13 to R15), with D the difference of the frame time and
the low ticks of the timebase N, from -2^31 to 2^31 - 1. For a channel no longer accepted the frame counts
FOREIGN; with D above 10,000 or N + D below 0, TIME_FAULT; with a duration or rise time outside the limits,
NOISE. Otherwise the descriptor of time N + D stands in the lane's holding slot, which R16 leaves free. The
lane hunts, and nothing else changes. -/
def Obligations.HitFrameCompletes : Prop :=
  ∀ (l : Lane) (ch : Character) (last : Byte) (s : State) (fr : LaneFrame) (d : Int),
    Carries false last ch → s.steady = true →
    (s.intake.lane l).state = .accepting fr → fr.kind = .hit → fr.bytes.length = 9 →
    -2 ^ 31 ≤ d → d < 2 ^ 31 → ((s.now : Int) + d) % 2 ^ 32 = bytesToNat (fr.bytes.take 4) →
    let byte := fun i => ((fr.bytes ++ [last]).getD i 0).toNat
    let duration := byte 7 + 256 * byte 8
    let noisy := duration < s.params.minDuration ∨ s.params.maxDuration < duration ∨
      s.params.maxRise < byte 9
    (s.accepted fr.channel = false →
      exec (.hitLaneDataCharacter l ch) s = .next (s.updLane l fun r =>
        { r with state := .hunting, foreigns := bump r.foreigns })) ∧
    (s.accepted fr.channel = true → 10000 < d ∨ (s.now : Int) + d < 0 →
      exec (.hitLaneDataCharacter l ch) s = .next ((s.updLane l fun r => { r with state := .hunting }).updIntake
        fun i => { i with timeFaults := bump i.timeFaults })) ∧
    (s.accepted fr.channel = true → d ≤ 10000 → 0 ≤ (s.now : Int) + d → noisy →
      exec (.hitLaneDataCharacter l ch) s = .next ((s.updLane l fun r => { r with state := .hunting }).updIntake
        fun i => { i with noises := bump i.noises })) ∧
    (s.accepted fr.channel = true → d ≤ 10000 → 0 ≤ (s.now : Int) + d → ¬noisy →
      (s.intake.lane l).slot = none →
      exec (.hitLaneDataCharacter l ch) s = .next (s.updLane l fun r =>
        { r with
          state := .hunting
          slot := some
            { channel := fr.channel
              time := ((s.now : Int) + d).toNat % 2 ^ 48
              amplitude := min 100 (byte 4)
              energy := byte 5 + 256 * byte 6
              duration := duration
              riseTime := byte 9 } }))

/-- The data character of a fault frame (R7, R11): for an accepted channel a code of 1 to 255 sets FAULTED
and is stored, and code 0 counts MALFORMED; for a channel no longer accepted the frame counts FOREIGN. The
lane hunts, and nothing else changes. -/
def Obligations.FaultFrameTaken : Prop :=
  ∀ (l : Lane) (ch : Character) (code : Byte) (s : State) (fr : LaneFrame),
    Carries false code ch → s.steady = true →
    (s.intake.lane l).state = .accepting fr → fr.kind = .fault → fr.bytes = [] →
    exec (.hitLaneDataCharacter l ch) s = .next
      (if s.accepted fr.channel then
        if code = 0 then
          s.updLane l fun r => { r with state := .hunting, malformeds := bump r.malformeds }
        else
          (s.updLane l fun r => { r with state := .hunting }).updIntake fun i =>
            { i with faults := i.faults.set fr.channel { faulted := true, code := code } }
      else s.updLane l fun r => { r with state := .hunting, foreigns := bump r.foreigns })

/-- R9: a character error, a character whose parity or stop bit is wrong (R4, R191), on an open lane discards the
frame in progress, counts LINK_ERROR, sets the LINK_ERROR latch and leaves the lane HUNTING; on a shut lane it is
not detected. A good character on a shut lane is not examined either (Table 1-1). -/
def Obligations.CharacterErrorTaken : Prop :=
  ∀ (l : Lane) (ch : Character) (s : State), s.steady = true →
    (Faulty ch → (s.intake.lane l).state.isOpen = true →
      exec (.hitLaneCharacterError l ch) s = .next
        { s.updLane l fun r => { r with state := .hunting, linkErrors := min 65535 (r.linkErrors + 1) } with
          latches := { s.latches with linkError := true } }) ∧
    ((s.intake.lane l).state = .closed ∨ (s.intake.lane l).state = .settling →
      exec (.hitLaneCharacterError l ch) s = .next s ∧ exec (.hitLaneHeader l ch) s = .next s ∧
        exec (.hitLaneDataCharacter l ch) s = .next s)

/-- MERGE_SERVE (R16, R17): the slot of the lane whose turn it is, the only full one or the one not served
last, is emptied and remembered as served last; its descriptor goes to the tail of the Staging FIFO and is
counted, or is dropped at 32 entries with OVERRUN counted and QUEUE_DROP set. -/
def Obligations.MergeServes : Prop :=
  ∀ (l : Lane) (d : Descriptor) (s : State), s.steady = true →
    (s.intake.lane l).slot = some d →
    (∀ m, m ≠ l → (s.intake.lane m).slot = none ∨ s.intake.lastServed = m) →
    exec .mergeServe s = .next
      (if s.intake.fifo.length < 32 then
        (s.updLane l fun r => { r with slot := none }).updIntake fun i =>
          { i with lastServed := l, fifo := i.fifo ++ [d], hitsStaged := bump i.hitsStaged }
      else
        { (s.updLane l fun r => { r with slot := none }).updIntake fun i =>
            { i with lastServed := l, overruns := bump i.overruns } with
          latches := { s.latches with queueDrop := true } })

/-- RESTART_COUNT_EXPIRY at 5120 ticks starts the settle interval (R19); SETTLE_COUNT_EXPIRY at 2^20 ticks
ends it, and both lanes become CLOSED in SETUP and HUNTING otherwise (R5, R20). Nothing else changes. -/
def Obligations.RestartAndSettleEnd : Prop :=
  ∀ s : State, s.steady = true →
    (s.intake.phase = .restart → 5120 ≤ s.intake.restartCount →
      exec .restartCountExpiry s = .next
        { s with intake := { s.intake with phase := .settle, settleCount := 0 } }) ∧
    (s.intake.phase = .settle → 2 ^ 20 ≤ s.intake.settleCount →
      exec .settleCountExpiry s = .next
        { s with intake := { s.intake with
            phase := .done
            laneA := { s.intake.laneA with
              state := if s.run.state = .setup then .closed else .hunting }
            laneB := { s.intake.laneB with
              state := if s.run.state = .setup then .closed else .hunting } } })

/-! ### Event Former -/

/-- A hit with no candidate that is not late opens an event at the tail of the Open Event Set, where the set
holds fewer than 4 (R24 to R26, R30, R31). Nothing else changes but the FIFO's head. With 64 entries queued it
does so also where a grant is owed: the placement is then taken first (R35, log entry 9). -/
def Obligations.HitOpensEvent : Prop :=
  ∀ (d : Descriptor) (rest : List Descriptor) (s : State), s.resetAsserted = false →
    s.grantChoice = none ∨ 64 ≤ s.former.queue.length → s.intake.fifo = d :: rest → s.beforeCutoff d = true →
    (∀ e ∈ s.former.openSet, isCandidate s.params.w d e = false) →
    s.now < d.time + s.params.w + s.params.settle → s.former.openSet.length < 4 →
    exec .hitPlacement s = .next
      { s with
        intake := { s.intake with fifo := rest }
        former := { s.former with openSet := s.former.openSet ++ [s.eventOf d] } }

/-- A hit with a candidate of fewer than 8 members joins it (R28, R29): in its place of the member list; or
as first member, with the expiry computed anew, where it is earlier than the first; and there the event
closes at once where the new expiry is not later than now. Every other open event is as it was. With 64
entries queued a grant may be owed, and an event that closes is dropped: the offer comes first (R35). -/
def Obligations.HitJoinsEvent : Prop :=
  ∀ (d : Descriptor) (rest : List Descriptor) (i : Nat) (e : OpenEvent) (s : State),
    s.resetAsserted = false →
    s.grantChoice = none ∨ 64 ≤ s.former.queue.length → s.intake.fifo = d :: rest →
    s.beforeCutoff d = true → s.Chosen d i e → e.rest.length + 1 < 8 →
    let taken := { s with intake := { s.intake with fifo := rest } }
    let joined := fun (e' : OpenEvent) =>
      { taken with former := { s.former with openSet := s.former.openSet.set i e' } }
    (∀ before after, e.rest = before ++ after → e.first.time ≤ d.time →
      (∀ m ∈ before, m.time ≤ d.time) → (∀ m ∈ after.head?, d.time < m.time) →
      exec .hitPlacement s = .next (joined { e with rest := before ++ d :: after })) ∧
    (d.time < e.first.time →
      let expiry := d.time + s.params.w + s.params.settle
      let e' := { e with first := d, rest := e.first :: e.rest, expiry := expiry }
      (s.now < expiry → exec .hitPlacement s = .next (joined e')) ∧
      (expiry ≤ s.now → exec .hitPlacement s = .next
        (taken.closed (s.former.openSet.eraseIdx i) e')))

/-- R27: a hit whose candidate already has 8 members is turned away and counted EXCESS; the event is
unchanged, the hit is offered to no other candidate, and it opens no event. A grant may be owed where 64 entries
are queued (R35, log entry 9). -/
def Obligations.FullEventTurnsHitAway : Prop :=
  ∀ (d : Descriptor) (rest : List Descriptor) (i : Nat) (e : OpenEvent) (s : State),
    s.resetAsserted = false →
    s.grantChoice = none ∨ 64 ≤ s.former.queue.length → s.intake.fifo = d :: rest →
    s.beforeCutoff d = true → s.Chosen d i e → 8 ≤ e.rest.length + 1 →
    exec .hitPlacement s = .next
      { s with
        intake := { s.intake with fifo := rest }
        former := { s.former with excesses := min 65535 (s.former.excesses + 1) } }

/-- A hit later than the cutoff is discarded and counted POST_RUPTURE (R25); a hit with no candidate that
would open an expired event is discarded and counted LATE (R30). The premise on the run state holds in
every run (`RunLaw.rupture`). A grant may be owed where 64 entries are queued (R35, log entry 9). -/
def Obligations.HitDiscarded : Prop :=
  ∀ (d : Descriptor) (rest : List Descriptor) (s : State), RunLaw s →
    s.resetAsserted = false → s.grantChoice = none ∨ 64 ≤ s.former.queue.length →
    s.intake.fifo = d :: rest →
    (s.beforeCutoff d = false → exec .hitPlacement s = .next
      { s with
        intake := { s.intake with fifo := rest }
        former := { s.former with postRuptures := bump s.former.postRuptures } }) ∧
    (s.beforeCutoff d = true → (∀ e ∈ s.former.openSet, isCandidate s.params.w d e = false) →
      d.time + s.params.w + s.params.settle ≤ s.now → exec .hitPlacement s = .next
        { s with
          intake := { s.intake with fifo := rest }
          former := { s.former with lates := bump s.former.lates } })

/-- A hit that opens an event in a full set closes the open event of earliest expiry first, early, counted
EARLY and located as any close is (R32, R34). With 64 entries queued a grant may be owed, and the closed event is
dropped: the offer comes first (R35, log entry 9). -/
def Obligations.EarlyCloseMakesRoom : Prop :=
  ∀ (d : Descriptor) (rest : List Descriptor) (i : Nat) (e : OpenEvent) (s : State),
    s.resetAsserted = false →
    s.grantChoice = none ∨ 64 ≤ s.former.queue.length → s.intake.fifo = d :: rest → s.beforeCutoff d = true →
    (∀ q ∈ s.former.openSet, isCandidate s.params.w d q = false) →
    s.now < d.time + s.params.w + s.params.settle → s.former.openSet.length = 4 →
    s.former.openSet[i]? = some e →
    (∀ j, ∀ h : j < s.former.openSet.length, e.expiry < s.former.openSet[j].expiry ∨
      (e.expiry = s.former.openSet[j].expiry ∧ i ≤ j)) →
    exec .hitPlacement s = .next
      (({ s with
          intake := { s.intake with fifo := rest }
          former := { s.former with earlies := bump s.former.earlies } }).closed
        (s.former.openSet.eraseIdx i ++ [s.eventOf d]) { e with early := true })

/-- EVENT_EXPIRY closes the earliest-opened event whose expiry the timebase has reached (R33 to R36;
one event for each command is the model's reading, log entry 22). With 64 entries queued it does so also where a
fold is owed, and the event is dropped: the offer is then taken first (R35). -/
def Obligations.ExpiredEventCloses : Prop :=
  ∀ (i : Nat) (e : OpenEvent) (s : State), s.resetAsserted = false →
    s.grantChoice = none ∨ 64 ≤ s.former.queue.length →
    s.former.openSet[i]? = some e → e.expiry ≤ s.now →
    (∀ j, ∀ h : j < s.former.openSet.length, j < i → s.now < s.former.openSet[j].expiry) →
    exec .eventExpiry s = .next (s.closed (s.former.openSet.eraseIdx i) e)

/-! ### Locator -/

/-- The Locator (R53 to R62). The axial partner is the earliest other member on an accepted channel one ring
away in the reference's column, the circumferential one on an accepted channel in the next or the previous
column, round the 16, of its ring. The offset d of a span L and a time difference is 0 where time times VEL
reaches L times 1024, and otherwise half the distance left, rounded down. z lies d from the reference's ring
position toward the partner's, x lies d from its column position up or down the shell, and without a partner
each is the reference's. The partners present give the quality, z and x the cell. Under parameters in
their ranges z, x and the cell lie on the shell and in the grid. -/
def Obligations.LocationInsideGrid : Prop :=
  ∀ (s : State) (first : Descriptor) (rest : List Descriptor), ParamLaw s.params →
    let p := s.params
    let loc := s.locate first rest
    let sensor := fun (d : Descriptor) => s.sensors[d.channel]
    let ref := sensor first
    let qualifies := fun (d : Descriptor) =>
      (sensor d).enabled = true ∧ s.intake.faults[d.channel].faulted = false
    let axially := fun (d : Descriptor) => qualifies d ∧ (sensor d).column = ref.column ∧
      ((sensor d).ring.val + 1 = ref.ring.val ∨ (sensor d).ring.val = ref.ring.val + 1)
    let plus := fun (d : Descriptor) => qualifies d ∧ (sensor d).ring = ref.ring ∧
      (sensor d).column.val = (ref.column.val + 1) % 16
    let minus := fun (d : Descriptor) => qualifies d ∧ (sensor d).ring = ref.ring ∧
      ((sensor d).column.val + 1) % 16 = ref.column.val
    let offset := fun (span time : Nat) =>
      if span * 1024 ≤ time * p.vel then 0 else (span * 1024 - time * p.vel) / 2048
    let z := p.ringPos[ref.ring]
    let x := p.colPos[ref.column]
    (∃ axial circ : Option Descriptor,
      IsPartner rest axially axial ∧ IsPartner rest (fun d => plus d ∨ minus d) circ ∧
      loc.quality = (match axial, circ with
        | some _, some _ => .full
        | some _, none => .axial
        | none, some _ => .circ
        | none, none => .zonal) ∧
      (axial = none → loc.z = z) ∧
      (∀ d, axial = some d →
        let zp := p.ringPos[(sensor d).ring]
        (z < zp → loc.z = z + offset (zp - z) (d.time - first.time)) ∧
        (zp ≤ z → loc.z = z - offset (z - zp) (d.time - first.time))) ∧
      (circ = none → loc.x = x) ∧
      (∀ d, circ = some d →
        let xp := p.colPos[(sensor d).column]
        (plus d → loc.x =
          (x + offset (((xp : Int) - x) % p.circ).toNat (d.time - first.time)) % p.circ) ∧
        (minus d → (loc.x : Int) =
          ((x : Int) - offset (((x : Int) - xp) % p.circ).toNat (d.time - first.time)) % p.circ))) ∧
    loc.cell = { axial := min (loc.z / p.cell) ((p.length + p.cell - 1) / p.cell - 1)
                 circ := loc.x / p.cell } ∧
    loc.z ≤ p.length ∧ loc.x < p.circ ∧ p.inGrid loc.cell = true

/-! ### Pressure -/

/-- PLIN characters that complete no sample (R4, R65, R66, R191): a header opens a frame for the pressure kind and
counts MALFORMED for another, ending a frame in progress as FRAGMENT; a data character is appended in
ACCEPTING and ignored otherwise; an error counts LINK_ERROR, sets the latch and leaves the receiver
HUNTING; and 12 bits without a start bit of 0, which are no character, change nothing (log entry 15). -/
def Obligations.PlinCharacterTaken : Prop :=
  ∀ (ch : Character) (s : State), s.steady = true →
    (∀ b, Carries true b ch → exec (.plinHeader ch) s = .next
      { s with plin :=
          let fragments :=
            match s.plin.state with
            | .accepting _ => bump s.plin.fragments
            | _ => s.plin.fragments
          match b.toNat / 64 with
          | 3 => { s.plin with state := .accepting [], fragments := fragments }
          | _ =>
            { s.plin with
              state := .ignoring, fragments := fragments, malformeds := bump s.plin.malformeds } }) ∧
    (∀ b, Carries false b ch →
      (∀ bytes, s.plin.state = .accepting bytes → bytes.length < 2 → exec (.plinDataCharacter ch) s = .next
        { s with plin := { s.plin with state := .accepting (bytes ++ [b]) } }) ∧
      (s.plin.state = .hunting ∨ s.plin.state = .ignoring → exec (.plinDataCharacter ch) s = .next s)) ∧
    (Faulty ch → exec (.plinCharacterError ch) s = .next
      { s with
        plin := { s.plin with state := .hunting, linkErrors := bump s.plin.linkErrors }
        latches := { s.latches with linkError := true } }) ∧
    (ch.getLsbD 0 = true →
      exec (.plinHeader ch) s = .next s ∧ exec (.plinDataCharacter ch) s = .next s ∧
        exec (.plinCharacterError ch) s = .next s)

/-- The third data character completes a sample (R67): an invalid one changes nothing of the Monitor; a
valid one that is no rupture (R77) is taken by its phase rule, and then becomes the current pressure,
stamped now. -/
def Obligations.SampleTaken : Prop :=
  ∀ (ch : Character) (low high flags : Byte) (s : State), s.steady = true →
    Carries false flags ch → s.plin.state = .accepting [low, high] →
    let p := low.toNat + 256 * high.toNat
    let hunting := { s.plin with state := PlinState.hunting }
    (flags.getLsbD 0 = false →
      exec (.plinDataCharacter ch) s = .next { s with plin := hunting }) ∧
    (flags.getLsbD 0 = true →
      (s.run.state = .setup ∨ s.monitor.cutoff.isSome = true ∨ s.monitor.current = none ∨
        ∃ q, s.monitor.current = some q ∧ (q < s.params.ruptureFloor ∨ q < p + s.params.ruptureDrop)) →
      exec (.plinDataCharacter ch) s = .next
        { s with
          plin := hunting
          monitor := { s.monitor.samplePhase s.params p with current := some p, stamp := s.now } })

/-- The phase rules on a valid sample P (R70 to R73), phase by phase, with the thresholds as signed
numbers. -/
def Obligations.PhaseRules : Prop :=
  ∀ (m : Monitor) (q : Params) (p : Nat),
    let unloads := fun (peak : Nat) => (p : Int) ≤ (peak : Int) - q.unloadDelta
    let inBand := ((p : Int) - m.holdRef).natAbs ≤ q.holdBand
    let peak := max m.cyclePeak p
    let trough := min m.trough p
    (m.phase = .noPressure →
      (unloads m.cyclePeak → m.samplePhase q p = { m with phase := .unloading, trough := p }) ∧
      (¬unloads m.cyclePeak → m.samplePhase q p =
        { m with phase := .loading, cyclePeak := peak, holdRef := p, holdCount := 0 })) ∧
    (m.phase = .loading →
      (unloads peak → m.samplePhase q p =
        { m with phase := .unloading, cyclePeak := peak, trough := p, holdCount := 0 }) ∧
      (¬unloads peak → inBand → m.holdCount + 1 < q.holdSamples → m.samplePhase q p =
        { m with cyclePeak := peak, holdCount := m.holdCount + 1 }) ∧
      (¬unloads peak → inBand → q.holdSamples ≤ m.holdCount + 1 → m.samplePhase q p =
        { m with
          phase := .holding, cyclePeak := peak, holdCount := m.holdCount + 1
          holdIndex := min 65535 (m.holdIndex + 1) }) ∧
      (¬unloads peak → ¬inBand → m.samplePhase q p =
        { m with cyclePeak := peak, holdRef := p, holdCount := 0 })) ∧
    (m.phase = .holding →
      (inBand → m.samplePhase q p = { m with cyclePeak := peak }) ∧
      (¬inBand → unloads peak → m.samplePhase q p =
        { m with phase := .unloading, cyclePeak := peak, trough := p, holdCount := 0 }) ∧
      (¬inBand → ¬unloads peak → m.samplePhase q p =
        { m with phase := .loading, cyclePeak := peak, holdRef := p, holdCount := 0 })) ∧
    (m.phase = .unloading →
      (trough + q.reloadDelta ≤ p → m.samplePhase q p =
        { m with
          phase := .loading, trough := trough, priorPeak := max m.priorPeak m.cyclePeak, cyclePeak := p
          cycle := min 65535 (m.cycle + 1), holdRef := p, holdCount := 0 }) ∧
      (p < trough + q.reloadDelta → m.samplePhase q p = { m with trough := trough }))

/-- A valid sample that meets the rupture test (R77) outside SETUP, the latch clear: the cutoff is now, the
latch and the status latch are set, later open events and queue entries are discarded and counted, the marks
cleared, the timer stopped, and the run is FREEZING, or FROZEN where nothing is left to drain, with the
RUPTURE flavour (R38 to R40, R163, R164, R167); then the sample is taken (R67). It does so also where a fold is
owed, as after a THAW at one moment with it, so that a fold finds no later event (R162, R168). -/
def Obligations.RuptureLatched : Prop :=
  ∀ (ch : Character) (low high flags : Byte) (q : Nat) (s : State), s.resetAsserted = false →
    s.grantChoice = none ∨ s.grantChoice = some .fold →
    Carries false flags ch → s.plin.state = .accepting [low, high] →
    flags.getLsbD 0 = true → s.run.state ≠ .setup → s.monitor.cutoff = none →
    s.monitor.current = some q → s.params.ruptureFloor ≤ q →
    low.toNat + 256 * high.toNat + s.params.ruptureDrop ≤ q →
    let p := low.toNat + 256 * high.toNat
    let openSet := s.former.openSet.filter fun e => decide (e.first.time ≤ s.now)
    let queue := (s.former.queue.filter fun e => decide (e.firstHit ≤ s.now)).map fun e =>
      { e with held := false }
    let drained := queue.isEmpty && openSet.isEmpty && s.sweep.backlog == 0 && !s.sweep.pass &&
      !s.backgroundBusy
    exec (.plinDataCharacter ch) s = .next
      { s with
        plin := { s.plin with state := .hunting }
        former := { s.former with
          openSet := openSet
          queue := queue
          aborteds := min 65535 (s.former.aborteds + (s.former.openSet.length - openSet.length))
          eventDrops := min 65535 (s.former.eventDrops + (s.former.queue.length - queue.length)) }
        monitor := { (Monitor.samplePhase { s.monitor with cutoff := some s.now } s.params p) with
          current := some p, stamp := s.now }
        sweep := { s.sweep with timer := none }
        run := { state := if drained then .frozen else .freezing, flavour := some .rupture }
        latches := { s.latches with
          rupture := true, frozenReached := s.latches.frozenReached || drained } }

/-! ### Sweeps and folds -/

/-- SWEEP_TIMER_EXPIRY at the end of the interval (R128, R129): one more pass owed, or at 15 an expiry lost,
counted and latched; the timer starts again with SWEEP_INTERVAL as it stands. At 15 with the last slice of a pass
in progress, an expiry before its completion is lost, and the completion leaves 14; after the completion it makes
15 again, with nothing lost. That the pass leaves the backlog at that completion is the model's reading of R137
and R154 (log entry 8). -/
def Obligations.SweepTimerExpires : Prop :=
  ∀ (x : Timer) (s : State), s.steady = true → s.sweep.timer = some x → x.interval ≤ x.elapsed →
    let timer : Option Timer := some { elapsed := 0, interval := s.params.sweepInterval * 10000 }
    (s.sweep.backlog ≤ 14 → exec .sweepTimerExpiry s = .next
      { s with sweep := { s.sweep with timer := timer, backlog := s.sweep.backlog + 1 } }) ∧
    (15 ≤ s.sweep.backlog → exec .sweepTimerExpiry s = .next
      { s with
        sweep := { s.sweep with timer := timer, lost := bump s.sweep.lost }
        latches := { s.latches with sweepLost := true } }) ∧
    (∀ op, s.sweep.backlog = 15 → s.arbiter.operation = some op → op.requester = .sweep →
      op.endsPass = true → s.port.request = none →
      (∃ t u, exec .sweepTimerExpiry s = .next t ∧ exec .operationCompletion t = .next u ∧
        u.sweep.backlog = 14 ∧ u.sweep.lost = bump s.sweep.lost ∧ u.latches.sweepLost = true) ∧
      (∃ t u, exec .operationCompletion s = .next t ∧ exec .sweepTimerExpiry t = .next u ∧
        u.sweep.backlog = 15 ∧ u.sweep.lost = s.sweep.lost ∧
        u.latches.sweepLost = s.latches.sweepLost))

/-- A fold that reaches no record (R37, R82, R93, R95, R107): a ZONAL entry under ZONAL_FOLD 0 charges the zone of
its first channel; an entry on the record path whose key is not live, in a full table with no candidate for
eviction, is unplaced. The entry leaves the queue in both, and nothing else changes but the Arbiter. R95 counts
and latches an unplaced event in its fold; that the completion does so is the model's reading, DEDUCED from R144
and R154 (log entry 8). -/
def Obligations.FoldReachesNoRecord : Prop :=
  ∀ (before after : List LocatedEvent) (e : LocatedEvent) (s : State), s.resetAsserted = false →
    s.grantChoice = some .fold → s.FoldTakes before e after → TableLaw s.table →
    let granted := fun (unplaced : Bool) => { s with
      former := { s.former with queue := before ++ after }
      arbiter := s.backgroundGranted .fold (s.foldInProgress unplaced false) }
    let charged : Zone :=
      { s.zones[e.channel] with unlocated := min 255 (s.zones[e.channel].unlocated + 1) }
    (e.quality = .zonal → s.params.zonalFold = 0 →
      exec .fold s = .next { granted false with zones := s.zones.set e.channel charged }) ∧
    (e.quality ≠ .zonal ∨ s.params.zonalFold ≠ 0 → (∀ q ∈ s.table.slots, q.2.key ≠ e.cell) →
      s.table.Full → s.table.NoCandidate → exec .fold s = .next (granted true))

/-- A fold on the record path (R37, R83, R92 to R94, R109, R119, Table 5-1): into the live record of the cell; or
into a NASCENT record of the cell, with the first channel as its home and every other field at its value of
Table 5-1, in the lowest free slot; or, in a full table, into such a record in the slot of the candidate that
comes first in the order of eviction. A raise of an unmuted record sets its report flag and raises its zone.
Nothing else changes but the queue and the Arbiter. R94 and R105 count an eviction in its fold; that the
completion does so is the model's reading, DEDUCED from R144 and R154 (log entry 8). -/
def Obligations.FoldReachesRecord : Prop :=
  ∀ (before after : List LocatedEvent) (e : LocatedEvent) (s : State), s.resetAsserted = false →
    s.grantChoice = some .fold → s.FoldTakes before e after → TableLaw s.table →
    e.quality ≠ .zonal ∨ s.params.zonalFold ≠ 0 →
    let granted := fun (evicted : Bool) => { s with
      former := { s.former with queue := before ++ after }
      arbiter := s.backgroundGranted .fold (s.foldInProgress false evicted) }
    let created : SourceRecord :=
      { key := e.cell, tracked := false, muted := false, pinned := false, seeded := false, label := none
        home := e.channel, others := [], events := 0, fulls := 0, energySum := 0, peakAmplitude := 0
        highAmps := 0, firstTime := none, lastTime := none, firstPressure := none, onsetCycle := 0
        onsetPressure := none, felicity := none, holdSeen := 0, holdCurrent := 0, holdTotal := 0
        activity := 0, sinceSweep := 0, idleSweeps := 0
        met := { felicity := false, hold := false, activity := false, intensity := false }
        grade := 0, report := false }
    let new := created.foldEvent s.params e
    (∀ slot r, (slot, r) ∈ s.table.slots → r.key = e.cell →
      let r' := r.foldEvent s.params e
      exec .fold s = .next
        { granted false with
          table := s.table.put slot (raisedRecord r' r.grade)
          zones := raisedZones s.zones r' r.grade }) ∧
    ((∀ q ∈ s.table.slots, q.2.key ≠ e.cell) →
      (∀ slot, s.table.LowestFree slot → exec .fold s = .next
        { granted false with
          table := s.table.put slot (raisedRecord new 0)
          zones := raisedZones s.zones new 0 }) ∧
      (∀ slot v, s.table.Full → s.table.Victim slot v → exec .fold s = .next
        { granted true with
          table := (s.table.remove slot).put slot (raisedRecord new 0)
          zones := raisedZones s.zones new 0 }))

/-- What a fold makes of a record (R84, R90, R110 to R112, R114 to R118): counters, channel list, times, onset
and Felicity ratio, hold emission, the criteria, promotion and grade; and what it leaves. -/
def Obligations.FoldUpdatesRecord : Prop :=
  ∀ (p : Params) (e : LocatedEvent) (r : SourceRecord),
    let r' := r.foldEvent p e
    r'.events = min 16777215 (r.events + 1) ∧
    r'.fulls = (if e.quality = .full then min 16777215 (r.fulls + 1) else r.fulls) ∧
    r'.energySum = min 4294967295 (r.energySum + e.energy) ∧
    r'.peakAmplitude = max r.peakAmplitude e.amplitude ∧
    r'.highAmps = (if p.highAmp ≤ e.amplitude then min 65535 (r.highAmps + 1) else r.highAmps) ∧
    r'.sinceSweep = min 4095 (r.sinceSweep + 1) ∧ r'.idleSweeps = 0 ∧ r'.activity = r.activity ∧
    r'.home = r.home ∧
    r'.others = (if e.channel = r.home ∨ e.channel ∈ r.others ∨ 3 ≤ r.others.length then r.others
      else r.others ++ [e.channel]) ∧
    r'.lastTime = some e.firstHit ∧ r'.firstTime = some (r.firstTime.getD e.firstHit) ∧
    r'.firstPressure = (if r.firstTime = none then e.context.pressure else r.firstPressure) ∧
    (r'.met.intensity = true ↔ r.met.intensity = true ∨ p.highAmpLimit ≤ r'.highAmps) ∧
    r'.met.activity = r.met.activity ∧
    (r'.tracked = true ↔ r.tracked = true ∨ p.confirm ≤ r'.fulls) ∧
    r'.grade = (if r'.tracked then min 3 r'.met.count else 0) ∧
    r'.key = r.key ∧ r'.muted = r.muted ∧ r'.pinned = r.pinned ∧ r'.seeded = r.seeded ∧
    r'.label = r.label ∧ r'.report = r.report ∧
    (e.context.pressure = none ∨ r.onsetCycle = e.context.cycle →
      r'.onsetCycle = r.onsetCycle ∧ r'.onsetPressure = r.onsetPressure ∧ r'.felicity = r.felicity ∧
        r'.met.felicity = r.met.felicity) ∧
    (∀ q, e.context.pressure = some q → r.onsetCycle ≠ e.context.cycle →
      r'.onsetCycle = e.context.cycle ∧ r'.onsetPressure = some q ∧
      (e.context.priorPeak = 0 → r'.felicity = r.felicity ∧ r'.met.felicity = r.met.felicity) ∧
      (0 < e.context.priorPeak →
        let ratio := min 1999 (1000 * q / e.context.priorPeak)
        r'.felicity = some ratio ∧
        (r'.met.felicity = true ↔ r.met.felicity = true ∨ ratio < p.felicityLimit))) ∧
    (e.context.phase ≠ .holding →
      r'.holdSeen = r.holdSeen ∧ r'.holdCurrent = r.holdCurrent ∧ r'.holdTotal = r.holdTotal ∧
        r'.met.hold = r.met.hold) ∧
    (e.context.phase = .holding →
      r'.holdSeen = e.context.hold ∧
      r'.holdCurrent =
        (if r.holdSeen = e.context.hold then min 255 (r.holdCurrent + 1) else 1) ∧
      r'.holdTotal = min 65535 (r.holdTotal + 1) ∧
      (r'.met.hold = true ↔ r.met.hold = true ∨ p.holdLimit ≤ r'.holdCurrent))

/-- Neither a fold nor a sweep visit lowers the grade of a record whose grade follows its met-set, nor takes
FELICITY, HOLD, ACTIVITY or INTENSITY from it (R118). -/
def Obligations.GradeNeverFalls : Prop :=
  ∀ (p : Params) (e : LocatedEvent) (r : SourceRecord),
    r.grade = (if r.tracked then min 3 r.met.count else 0) →
    let keeps := fun (q : SourceRecord) => r.grade ≤ q.grade ∧
      (r.met.felicity = true → q.met.felicity = true) ∧ (r.met.hold = true → q.met.hold = true) ∧
      (r.met.activity = true → q.met.activity = true) ∧ (r.met.intensity = true → q.met.intensity = true)
    keeps (r.foldEvent p e) ∧ keeps (r.visit p)

/-- A slice that ends no pass (R132, R134 to R136): it begins a pass where none is in progress, and visits the 16
slots from the cursor (`Visited`). A record that meets the test is retired, every other visited record stands
with its activity decayed and its raise reported, and every other slot is as it was. Live grades rise by the
raises of visited unmuted records alone, building grades to the grades of those that stay, and no unlocated
count changes. R135 counts a retirement within the slice; that the table's counters stay as they are until the
completion, which adds the retirements, is the model's reading, DEDUCED from R144 and R154 (log entry 8). -/
def Obligations.SliceVisits : Prop :=
  ∀ s : State, s.resetAsserted = false → s.grantChoice = some .sweep → TableLaw s.table →
    s.sweep.sliceStart + 16 < 1024 →
    ∃ t, exec .sweepSlice s = .next t ∧
      t.sweep = { s.sweep with pass := true, cursor := s.sweep.sliceStart + 16 } ∧
      t.arbiter = s.backgroundGranted .sweep
        (s.sliceInProgress false (s.table.retiredIn s.params s.sweep.sliceStart 16)) ∧
      Visited s.params (fun n => s.sweep.sliceStart ≤ n ∧ n < s.sweep.sliceStart + 16) s.table t.table
        s.zones t.zones ∧
      { t with sweep := s.sweep, arbiter := s.arbiter, table := s.table, zones := s.zones } = s

/-- The slice that visits slot 1023 visits as every slice does (`Visited`), and then ends the pass (R137, R171):
none is in progress, the cursor is 0, each zone's live grade becomes the building grade that the visits left, its
building grade and unlocated count 0, and one pass fewer is owed. R135 counts a retirement and R137 lowers the
backlog within the slice; that both wait for the completion is the model's reading, DEDUCED from R144, R129 and
R154 (log entry 8). -/
def Obligations.PassEnds : Prop :=
  ∀ s : State, s.resetAsserted = false → s.grantChoice = some .sweep → TableLaw s.table →
    1024 ≤ s.sweep.sliceStart + 16 →
    ∃ (t : State) (built : Vector Zone 64), exec .sweepSlice s = .next t ∧
      t.sweep = { s.sweep with pass := false, cursor := 0 } ∧
      (s.port.request = none → ∃ u, exec .operationCompletion t = .next u ∧
        u.sweep = { s.sweep with backlog := s.sweep.backlog - 1, pass := false, cursor := 0 }) ∧
      t.arbiter = s.backgroundGranted .sweep
        (s.sliceInProgress true (s.table.retiredIn s.params s.sweep.sliceStart 16)) ∧
      Visited s.params (fun n => s.sweep.sliceStart ≤ n ∧ n < s.sweep.sliceStart + 16) s.table t.table
        s.zones built ∧
      (∀ c : Channel, t.zones[c] = { live := built[c].building, building := 0, unlocated := 0 }) ∧
      { t with sweep := s.sweep, arbiter := s.arbiter, table := s.table, zones := s.zones } = s

/-- Steps 1 to 4 of a visit (R133, R134): the activity decays and takes twice E, idle sweeps count a visit
that finds E at 0, E becomes 0, and ACTIVITY joins for a TRACKED record at ACT_HIGH. From values in their
ranges no visit reaches the saturation of 65535. -/
def Obligations.VisitDecays : Prop :=
  ∀ (p : Params) (r : SourceRecord),
    let r' := r.visit p
    r'.activity = min 65535 (r.activity - r.activity / 8 + 2 * r.sinceSweep) ∧
    r'.idleSweeps = (if r.sinceSweep = 0 then min 255 (r.idleSweeps + 1) else r.idleSweeps) ∧
    r'.sinceSweep = 0 ∧
    (r'.met.activity = true ↔ r.met.activity = true ∨ (r.tracked = true ∧ p.actHigh ≤ r'.activity)) ∧
    r'.met = { r.met with activity := r'.met.activity } ∧
    r'.grade = (if r.tracked then min 3 r'.met.count else 0) ∧
    r' = { r with
      activity := r'.activity, idleSweeps := r'.idleSweeps, sinceSweep := 0, met := r'.met
      grade := r'.grade } ∧
    (r.activity ≤ 65535 → r.sinceSweep ≤ 4095 → r'.activity ≤ 65534)

/-! ### Table Arbiter -/

/-- Who requests the table, and the choice of a grant where no operation is in progress (R37, R131, R143, R146,
R147, Table 8-2), step by step. While an operation is in progress no one is chosen (R144). The grant command of
the requester that is chosen begins its operation; that of another, no event of the part, changes nothing (log entry
5). A grant is made at once (R144): any other command, taken while a grant is owed, does what it does after that
grant (log entry 9, which says how the queue of commands keeps this), but for the events that may fall on either
side of it: LOCK_EXPIRY (R151, `TimeLimitsExpire`), ANNUNCIATOR_FRAME_START (R173, `FrameStarts`), EVENT_EXPIRY
and HIT_PLACEMENT with 64 entries queued (R35, `ExpiredEventCloses` and the statements on placements), and a rupture
where a fold is owed (R168, `RuptureLatched`). -/
def Obligations.GrantChosen : Prop :=
  ∀ s : State,
    let command := fun (r : Requester) => match r with
      | .port => Instr.portGrant
      | .fold => Instr.fold
      | .sweep => Instr.sweepSlice
    (s.arbiter.operation ≠ none → s.grantChoice = none) ∧
    (∀ r, s.grantChoice ≠ some r → exec (command r) s = .next s) ∧
    (∀ r, s.resetAsserted = false → s.grantChoice = some r → ∃ t, exec (command r) s = .next t ∧
      (∃ op, t.arbiter.operation = some op ∧ op.requester = r) ∧
      ∀ c : Instr, c ≠ .reset → c ≠ .resetnRelease → c ≠ .lockExpiry → c ≠ .annunciatorFrameStart →
        (∀ q, c ≠ command q) →
        (c = .hitPlacement ∨ c = .eventExpiry → s.former.queue.length < 64) →
        (∀ ch, c = .plinDataCharacter ch → r = .fold → ¬s.RuptureBy ch) → exec c s = exec c t) ∧
    (s.arbiter.operation = none →
    let folds := (s.run.state = .listening ∧ s.former.queue ≠ []) ∨
      (s.run.state = .freezing ∧ ∃ e ∈ s.former.queue, e.held = false)
    let sweeps := (s.run.state = .listening ∨ s.run.state = .freezing) ∧
      (0 < s.sweep.backlog ∨ s.sweep.pass = true)
    let ports := ∃ hold work, s.port.request = some { hold := hold, stage := .waiting work }
    let n := s.sweep.backlog
    let later := fun (a b : Requester) => s.arbiter.recency.idxOf b < s.arbiter.recency.idxOf a
    let portBeats := fun (b : Requester) =>
      if s.params.policy = 0 then later .port b else s.params.starveLimit ≤ s.arbiter.starvation
    (s.arbiter.locked = true →
      (ports → s.grantChoice = some .port) ∧ (¬ports → s.grantChoice = none)) ∧
    (s.arbiter.locked = false →
      (¬folds → ¬sweeps → ¬ports → s.grantChoice = none) ∧
      (sweeps → 12 ≤ n → s.grantChoice = some .sweep) ∧
      (sweeps → 8 ≤ n → n ≤ 11 →
        (ports ∧ portBeats .sweep → s.grantChoice = some .port) ∧
        (¬(ports ∧ portBeats .sweep) → s.grantChoice = some .sweep)) ∧
      (sweeps → 4 ≤ n → n ≤ 7 → ∀ b,
        (folds ∧ later .fold .sweep → b = .fold) → (¬(folds ∧ later .fold .sweep) → b = .sweep) →
        (ports ∧ portBeats b → s.grantChoice = some .port) ∧
        (¬(ports ∧ portBeats b) → s.grantChoice = some b)) ∧
      (¬sweeps ∨ n ≤ 3 → folds →
        (ports ∧ portBeats .fold → s.grantChoice = some .port) ∧
        (¬(ports ∧ portBeats .fold) → s.grantChoice = some .fold)) ∧
      (¬sweeps ∨ n ≤ 3 → ¬folds → ports → s.grantChoice = some .port) ∧
      (sweeps → n ≤ 3 → ¬folds → ¬ports → s.grantChoice = some .sweep)))

/-- PORT_GRANT for any table work, whoever else requests (R144, R145, R148, R149): PORT moves to the front of the
recency order, the starvation count becomes 0, HOLD acquires a free lock at now and keeps a held one, the
table, zones, parameters, sensors and faults become what the work makes of them, and the request waits for the
completion with the work's answer. Nothing else changes; no response is pending yet that was not before. -/
def Obligations.PortGrantBegins : Prop :=
  ∀ (hold : Bool) (work : TableWork) (s : State), s.resetAsserted = false →
    s.port.request = some { hold := hold, stage := .waiting work } → s.grantChoice = some .port →
    let result := s.performWork work
    exec .portGrant s = .next
      { s with
        table := result.state.table
        zones := result.state.zones
        params := result.state.params
        sensors := result.state.sensors
        intake := { s.intake with faults := result.state.intake.faults }
        arbiter := { s.arbiter with
          operation := some
            { requester := .port, liveBefore := s.table.slots.length
              reportBefore := (s.table.slots.filter fun e => e.2.report).length
              tookEntry := false, endsPass := false, unplaced := false, evicted := false
              autoRetired := 0 }
          recency := .port :: s.arbiter.recency.filter (· != .port)
          starvation := 0
          locked := s.arbiter.locked || hold
          acquired := if hold && !s.arbiter.locked then s.now else s.arbiter.acquired }
        port := { s.port with
          request := some { hold := hold, stage := .granted result.status result.payload } } }

/-- OPERATION_COMPLETION (R144, R150, R151, R160, R164): of a fold or slice, with no STOP or ENGINE RESET
waiting, the operation ends, the event it left unplaced, its eviction and its retirements are counted,
TABLE_FULL is latched, the backlog is lowered for a pass it ended (R137), and a drain that is complete becomes FROZEN; of a PORT operation, the response is made
pending, and a forced release that waited is made first and marks it LOCK_LOST. R95, R105 and R135 count and
latch within the fold or slice; that this is done at the completion is the model's reading, DEDUCED from R144
and R154 (log entry 8). -/
def Obligations.OperationCompletes : Prop :=
  ∀ (op : Operation) (s : State), s.resetAsserted = false → s.arbiter.operation = some op →
    let ended := { s.finished op with arbiter := { s.arbiter with operation := none } }
    (op.requester ≠ .port → (∀ h st, s.port.request = some { hold := h, stage := st } →
        st ≠ .stop ∧ st ≠ .engineReset) →
      let drained := s.run.state = .freezing ∧ ended.sweep.backlog = 0 ∧ s.sweep.pass = false ∧
        ((s.run.flavour = some .requested ∧ ∀ e ∈ s.former.queue, e.held = true) ∨
          (s.run.flavour = some .rupture ∧ s.former.queue = [] ∧ s.former.openSet = []))
      (¬drained → exec .operationCompletion s = .next ended) ∧
      (drained → exec .operationCompletion s = .next
        { ended with
          run := { s.run with state := .frozen }
          latches := { ended.latches with frozenReached := true } })) ∧
    (op.requester = .port → ∀ hold status payload,
      s.port.request = some { hold := hold, stage := .granted status payload } →
      (s.arbiter.breaking = false → exec .operationCompletion s = .next
        { s with
          arbiter := { s.arbiter with
            operation := none, lockLost := false, locked := hold && s.arbiter.locked }
          port := { s.port with
            request := none
            response := some
              { status := status, lockLost := s.arbiter.lockLost, payload := payload } } }) ∧
      (s.arbiter.breaking = true → exec .operationCompletion s = .next
        { s with
          arbiter := { s.arbiter with
            operation := none, lockLost := false, locked := false, breaking := false }
          port := { s.port with
            request := none
            response := some { status := status, lockLost := true, payload := payload } }
          latches := { s.latches with lockBroken := true } }))

/-- The two expiries measured across the full wrap of the timebase. SAMPLE_TIMEOUT_EXPIRY at its limit (R68):
NO_PRESSURE, the current pressure absent, the hold count 0 and PRESSURE_STALE set. LOCK_EXPIRY at its limit
(R151): with no PORT operation in progress the lock is released by force at once, with LOCK_BROKEN set and
LOCK_LOST pending; with one, the release waits for its completion. Nothing else changes. A request that waits under
the lock when the expiry is taken would have been granted next; taken first, the expiry puts it among all who
request: SWEEP at MUST goes before it, and at its grant with HOLD it acquires a new lock, now. -/
def Obligations.TimeLimitsExpire : Prop :=
  ∀ s : State, s.resetAsserted = false →
    (s.grantChoice = none → s.monitor.current.isSome = true →
      (s.params.sampleTimeout * 1000 : Int) ≤ ((s.now : Int) - s.monitor.stamp) % 2 ^ 48 →
      exec .sampleTimeoutExpiry s = .next
        { s with
          monitor := { s.monitor with phase := .noPressure, current := none, holdCount := 0 }
          latches := { s.latches with pressureStale := true } }) ∧
    (s.arbiter.locked = true → s.arbiter.breaking = false →
      (s.params.lockLimit * 1000 : Int) ≤ ((s.now : Int) - s.arbiter.acquired) % 2 ^ 48 →
      let released : State :=
        { s with
          arbiter := { s.arbiter with locked := false, lockLost := true }
          latches := { s.latches with lockBroken := true } }
      (s.portBusyAtTable = false → exec .lockExpiry s = .next released) ∧
      (s.portBusyAtTable = true → exec .lockExpiry s = .next
        { s with arbiter := { s.arbiter with breaking := true } }) ∧
      (∀ hold work, s.port.request = some { hold := hold, stage := .waiting work } →
        s.arbiter.operation = none →
        s.grantChoice = some .port ∧
        (s.sweepRequests = true → 12 ≤ s.sweep.backlog → released.grantChoice = some .sweep) ∧
        (released.grantChoice = some .port → ∃ g, exec .portGrant released = .next g ∧
          g.arbiter.locked = hold ∧ (hold = true → g.arbiter.acquired = s.now))))

/-! ### Table requests, from their frame to their response -/

/-- How a cell reference resolves (R180, R193): in long form to the cell named, where it lies inside the grid;
in short form to the view base plus the offsets, the axial sum inside the grid and the circumferential sum
taken round the shell. Under parameters in their ranges every resolved cell lies inside the grid. -/
def Obligations.ReferenceResolves : Prop :=
  ∀ (f : Frame) (s : State), ParamLaw s.params →
    let a := f.byteAt 0
    let c := f.byteAt 1
    let axial := s.port.view.axial + a / 16
    (f.long = true →
      (a < s.params.na → c < s.params.nc → s.resolveRef f = some { axial := a, circ := c }) ∧
      (s.params.na ≤ a ∨ s.params.nc ≤ c → s.resolveRef f = none)) ∧
    (f.long = false →
      (axial < s.params.na →
        s.resolveRef f = some { axial := axial, circ := (s.port.view.circ + a % 16) % s.params.nc }) ∧
      (s.params.na ≤ axial → s.resolveRef f = none)) ∧
    ∀ k, s.resolveRef f = some k → s.params.inGrid k = true

/-- LOOKUP, SCAN and CHANGES (R102, R188 to R190): each is taken, waits for its grant whatever is in progress, and
is answered with the records as they stand at that grant (`ServedAtGrant`); CHANGES alone writes, and clears the
report flag of each record it returns. The records of SCAN and CHANGES come in key order: every live record once,
by axial and then circumferential index (R101). A SCAN that shows a record gives the grid successor of the last
one: the next cell of its ring, or the first cell of the next ring, or none after the last cell of the grid. -/
def Obligations.TableReadsServed : Prop :=
  (∀ t : SourceTable, t.byKey.Perm (t.slots.map (·.2)) ∧
    ((t.slots.map (·.2.key)).Nodup → t.byKey.Pairwise fun a b =>
      a.key.axial < b.key.axial ∨ (a.key.axial = b.key.axial ∧ a.key.circ < b.key.circ))) ∧
  ∀ (f : Frame) (s : State), s.portReady = true →
    (formOk 0x20 f = true → ∀ k, s.resolveRef f = some k →
      ServedAtGrant (.lookup f) f s fun w u =>
        (∀ slot r, w.table.find? k = some (slot, r) → u = w.granted f.hold .ok (.record r)) ∧
        (w.table.find? k = none → u = w.granted f.hold .notFound .none)) ∧
    (formOk 0x21 f = true → ∀ k, s.resolveRef f = some k → f.byteAt f.refBytes ≤ 3 →
      ServedAtGrant (.scan f) f s fun w u =>
        let nascent := (f.payload.getD (f.refBytes + 1) 0).getLsbD 0
        let nc := (w.params.circ + w.params.cell - 1) / w.params.cell
        let na := (w.params.length + w.params.cell - 1) / w.params.cell
        let found := w.table.byKey.filter fun r =>
          decide (k.axial < r.key.axial ∨ (k.axial = r.key.axial ∧ k.circ ≤ r.key.circ)) &&
            decide (f.byteAt f.refBytes ≤ r.grade) && (r.tracked || nascent)
        u = w.granted f.hold .ok (.scan (found.take 6) (decide (6 < found.length))
          ((found.take 6).getLast?.bind fun r =>
            if r.key.circ + 1 < nc then some { axial := r.key.axial, circ := r.key.circ + 1 }
            else if r.key.axial + 1 < na then some { axial := r.key.axial + 1, circ := 0 }
            else none))) ∧
    (formOk 0x22 f = true → ServedAtGrant (.changes f) f s fun w u =>
      let found := w.table.byKey.filter fun r => r.report
      let cleared := w.table.mapRecords fun r =>
        if ∃ q ∈ found.take 6, q.key = r.key then { r with report := false } else r
      u = ({ w with table := cleared }).granted f.hold .ok
        (.changes (found.take 6) (decide (6 < found.length))))

/-- SEED (R83, R93, R94, R96, Table 5-1), taken whatever is in progress and answered from the table as it stands at
its grant (`ServedAtGrant`): EXISTS for a live key; a TRACKED, PINNED, SEEDED record with its label in the lowest
free slot, or, in a full table, in the slot of the candidate that comes first in the order of eviction, counted;
FULL where there is neither. -/
def Obligations.SeedServed : Prop :=
  ∀ (f : Frame) (k : CellKey) (s : State), s.portReady = true →
    formOk 0x23 f = true → s.resolveRef f = some k → ∀ h : f.byteAt (f.refBytes + 2) < 64,
    let label := f.byteAt f.refBytes + 256 * f.byteAt (f.refBytes + 1)
    let r : SourceRecord :=
      { key := k, tracked := true, muted := false, pinned := true, seeded := true, label := some label
        home := ⟨f.byteAt (f.refBytes + 2), h⟩, others := [], events := 0, fulls := 0, energySum := 0
        peakAmplitude := 0, highAmps := 0, firstTime := none, lastTime := none, firstPressure := none
        onsetCycle := 0, onsetPressure := none, felicity := none, holdSeen := 0, holdCurrent := 0
        holdTotal := 0, activity := 0, sinceSweep := 0, idleSweeps := 0
        met := { felicity := false, hold := false, activity := false, intensity := false }
        grade := 0, report := false }
    ServedAtGrant (.seed f) f s fun w u => TableLaw w.table →
      ((∃ q ∈ w.table.slots, q.2.key = k) → u = w.granted f.hold .exists .none) ∧
      ((∀ q ∈ w.table.slots, q.2.key ≠ k) →
        (∀ slot, w.table.LowestFree slot →
          u = ({ w with table := w.table.put slot r }).granted f.hold .ok (.record r)) ∧
        (w.table.Full →
          (∀ slot v, w.table.Victim slot v →
            u = ({ w with table :=
                { w.table.remove slot with evicted := bump w.table.evicted }.put slot r }).granted
              f.hold .ok (.record r)) ∧
          (w.table.NoCandidate → u = w.granted f.hold .full .none)))

/-- MARK (R121 to R124), taken whatever is in progress and made on the record as it stands at its grant
(`ServedAtGrant`): both flags take their actions together; clearing a set MUTED raises the home zone to the
record's grade, and sets the report flag where the grade is above 0; NOT_FOUND for a key that is not live. -/
def Obligations.MarkServed : Prop :=
  ∀ (f : Frame) (k : CellKey) (s : State), s.portReady = true →
    formOk 0x24 f = true → s.resolveRef f = some k →
    let actions := f.byteAt f.refBytes
    actions % 4 ≠ 3 → actions / 4 % 4 ≠ 3 →
    let apply := fun (n : Nat) (flag : Bool) => if n = 0 then flag else decide (n = 1)
    ServedAtGrant (.mark f) f s fun w u =>
      (w.table.find? k = none → u = w.granted f.hold .notFound .none) ∧
      (∀ slot r, w.table.find? k = some (slot, r) →
        let unmutes := r.muted = true ∧ actions % 4 = 2
        let r' := { r with
          muted := apply (actions % 4) r.muted
          pinned := apply (actions / 4 % 4) r.pinned
          report := r.report || decide (unmutes ∧ 0 < r.grade) }
        let zones := if unmutes then
            w.zones.set r.home { w.zones[r.home] with
              live := max w.zones[r.home].live r.grade
              building := max w.zones[r.home].building r.grade }
          else w.zones
        u = ({ w with table := w.table.put slot r', zones := zones }).granted f.hold .ok (.record r'))

/-- CLEAR STATS (R125, R126) and RETIRE (R97, R98), taken whatever is in progress and made on the record as it
stands at the grant (`ServedAtGrant`): the first returns the record to its values at fold creation, keeping key,
state, flags, label and channel list; the second removes it and returns it; both leave the Zone Map, and answer
NOT_FOUND for a key that is not live. -/
def Obligations.ClearAndRetireServed : Prop :=
  ∀ (f : Frame) (k : CellKey) (s : State), s.portReady = true → s.resolveRef f = some k →
    (formOk 0x25 f = true → ServedAtGrant (.clearStats f) f s fun w u =>
      (w.table.find? k = none → u = w.granted f.hold .notFound .none) ∧
      (∀ slot r, w.table.find? k = some (slot, r) →
        let r' : SourceRecord := { r with
          events := 0, fulls := 0, energySum := 0, peakAmplitude := 0, highAmps := 0
          firstTime := none, lastTime := none, firstPressure := none
          onsetCycle := 0, onsetPressure := none, felicity := none
          holdSeen := 0, holdCurrent := 0, holdTotal := 0, activity := 0, sinceSweep := 0
          idleSweeps := 0, grade := 0, report := false
          met := { felicity := false, hold := false, activity := false, intensity := false } }
        u = ({ w with table := w.table.put slot r' }).granted f.hold .ok (.record r'))) ∧
    (formOk 0x26 f = true → ServedAtGrant (.retire f) f s fun w u =>
      (w.table.find? k = none → u = w.granted f.hold .notFound .none) ∧
      (∀ slot r, w.table.find? k = some (slot, r) →
        u = ({ w with table := w.table.remove slot }).granted f.hold .ok (.record r)))

/-- Geometry writes and SENSOR WRITE (R48, R49, R52, R166, R186). In SETUP a geometry write is granted and stores
its value clamped to its range; a LENGTH or CIRC takes the positions above it down and CELL up to the grid
minimum; it answers OK where the value is stored as written and nothing else moved, and ADJUSTED otherwise. A
SENSOR WRITE with a channel above 63, or a ring or column above 15, answers BAD_REQUEST; in SETUP one that
conflicts answers CONFLICT, and any other is stored and clears its channel's FAULTED flag. Each write taken
empties the table and zeroes the Zone Map. Outside SETUP each answers STATE. -/
def Obligations.GeometryWritesServed : Prop :=
  ∀ s : State, s.portReady = true →
    let emptied := { s.table with slots := [] }
    let zero : Vector Zone 64 := Vector.replicate 64 { live := 0, building := 0, unlocated := 0 }
    let grid := fun (a b : Nat) => max 10 ((max a b + 255) / 256)
    (∀ (flags : Byte) (g : GeometryParam) (v : BitVec 16),
      let f := configFrame flags (.geometry g) v
      let x := match g with
        | .length => max 100 (min 65535 v.toNat)
        | .circ => max 100 (min 65535 v.toNat)
        | .cell => max (grid s.params.length s.params.circ) (min 4000 v.toNat)
        | .ringPos _ => min s.params.length v.toNat
        | .colPos _ => min (s.params.circ - 1) v.toNat
      let p := match g with
        | .length =>
          { s.params with
            length := x, ringPos := s.params.ringPos.map fun z => min z x
            cell := max s.params.cell (grid x s.params.circ) }
        | .circ =>
          { s.params with
            circ := x, colPos := s.params.colPos.map fun z => min z (x - 1)
            cell := max s.params.cell (grid s.params.length x) }
        | .cell => { s.params with cell := x }
        | .ringPos i => { s.params with ringPos := s.params.ringPos.set i x }
        | .colPos i => { s.params with colPos := s.params.colPos.set i x }
      let asWritten := x = v.toNat ∧ (g = .length → p.ringPos = s.params.ringPos) ∧
        (g = .circ → p.colPos = s.params.colPos) ∧ (g ≠ .cell → p.cell = s.params.cell)
      let stored := { s with params := p, table := emptied, zones := zero }
      (s.run.state ≠ .setup →
        exec (.geometryWrite flags g v) s = .next (s.answered f .state .none)) ∧
      (s.run.state = .setup → s.tableIdle = true →
        (asWritten → Serves (.geometryWrite flags g v) s
          (stored.served f .ok (.config (.geometry g) x))) ∧
        (¬asWritten → Serves (.geometryWrite flags g v) s
          (stored.served f .adjusted (.config (.geometry g) x))))) ∧
    (∀ f : Frame, formOk 0x06 f = true → 63 < f.byteAt 0 ∨ 15 < f.byteAt 1 ∨ 15 < f.byteAt 2 →
      exec (.sensorWrite f) s = .next (s.answered f .badRequest .none)) ∧
    (∀ (f : Frame) (c : Channel) (e : Sensor), formOk 0x06 f = true → f.byteAt 0 = c.val →
      f.byteAt 1 = e.ring.val → f.byteAt 2 = e.column.val →
      (f.payload.getD 3 0).getLsbD 0 = e.enabled →
      let conflict := e.enabled = true ∧ ∃ d : Channel, d ≠ c ∧ s.sensors[d].enabled = true ∧
        s.sensors[d].ring = e.ring ∧ s.sensors[d].column = e.column
      (s.run.state ≠ .setup → exec (.sensorWrite f) s = .next (s.answered f .state .none)) ∧
      (s.run.state = .setup → conflict →
        exec (.sensorWrite f) s = .next (s.answered f .conflict .none)) ∧
      (s.run.state = .setup → ¬conflict → s.tableIdle = true → Serves (.sensorWrite f) s
        ({ s with
            sensors := s.sensors.set c e
            intake := { s.intake with
              faults := s.intake.faults.set c { faulted := false, code := 0 } }
            table := emptied
            zones := zero }.served f .ok (.sensor c e { faulted := false, code := 0 }))))

/-! ### Requests that need no table -/

/-- ALERT (R183) is asserted exactly while the report count is above 0 or a latch is set. STATUS (R154, R182)
reports the state as it stands and clears every latch, so that the report count alone decides ALERT. The live
count, report count and queue depth are those of before an operation in progress, and the backlog, the table's
counters and the TABLE_FULL latch take in what an operation does to them at its completion alone
(`OperationCompletes`); this way of showing the last completed operation is the model's reading of R154, log
entry 8. COUNTERS (R184) reports the 28 counters in the order of Table 11-3 and clears them under CLEAR. -/
def Obligations.StatusAndCountersAnswered : Prop :=
  ∀ (f : Frame) (s : State), s.portReady = true →
    (s.arbiter.operation = none → (s.alert = true ↔
      (∃ e ∈ s.table.slots, e.2.report = true) ∨ s.latches ≠ Latches.reset)) ∧
    (∀ op, s.arbiter.operation = some op → (s.alert = true ↔
      0 < op.reportBefore ∨ s.latches ≠ Latches.reset)) ∧
    (formOk 0x01 f = true → ∀ report : StatusReport,
      (report.run = s.run.state ∧ report.flavour = s.run.flavour ∧
        report.laneA = s.intake.laneA.state ∧ report.laneB = s.intake.laneB.state ∧
        report.locked = s.arbiter.locked ∧ report.cutoff = s.monitor.cutoff ∧
        report.phase = s.monitor.phase ∧ report.pressure = s.monitor.current ∧
        report.cycle = s.monitor.cycle ∧ report.backlog = s.sweep.backlog ∧
        report.latches = s.latches) →
      (s.arbiter.operation = none →
        report.liveCount = s.table.slots.length ∧
        report.reportCount = (s.table.slots.filter fun e => e.2.report).length ∧
        report.queueDepth = s.former.queue.length) →
      (∀ op, s.arbiter.operation = some op →
        report.liveCount = op.liveBefore ∧ report.reportCount = op.reportBefore ∧
        report.queueDepth = min 64 (s.former.queue.length + op.tookEntry.toNat)) →
      let t := { s with latches := Latches.reset }.answered f .ok (.status report)
      exec (.status f) s = .next t ∧ (t.alert = true ↔ 0 < report.reportCount)) ∧
    (formOk 0x02 f = true →
      let a := s.intake.laneA
      let b := s.intake.laneB
      ∃ t, exec (.counters f) s = .next (t.answered f .ok (.counters
          [a.linkErrors, a.fragments, a.foreigns, a.malformeds,
            b.linkErrors, b.fragments, b.foreigns, b.malformeds,
            s.plin.linkErrors, s.plin.fragments, s.plin.malformeds, 0,
            s.intake.timeFaults, s.intake.noises, s.intake.overruns, s.intake.hitsStaged,
            s.former.lates, s.former.excesses, s.former.postRuptures, s.former.earlies,
            s.former.aborteds, s.former.formed, s.former.eventDrops, s.former.zonals,
            s.table.unplaced, s.table.autoRetired, s.table.evicted, s.sweep.lost])) ∧
        (f.clear = false → t = s) ∧
        (f.clear = true → t.counterValues = List.replicate 28 0 ∧
          t.intake.laneA.state = s.intake.laneA.state ∧ t.intake.laneB.state = s.intake.laneB.state ∧
          t.intake.laneA.slot = s.intake.laneA.slot ∧ t.intake.laneB.slot = s.intake.laneB.slot ∧
          t.intake.fifo = s.intake.fifo ∧ t.intake.faults = s.intake.faults ∧
          t.intake.lastServed = s.intake.lastServed ∧ t.intake.phase = s.intake.phase ∧
          t.intake.restartCount = s.intake.restartCount ∧ t.intake.settleCount = s.intake.settleCount ∧
          t.plin.state = s.plin.state ∧ t.former.openSet = s.former.openSet ∧
          t.former.queue = s.former.queue ∧ t.table.slots = s.table.slots ∧
          t.sweep = { s.sweep with lost := 0 } ∧
          { t with
            intake := s.intake, plin := s.plin, former := s.former, table := s.table
            sweep := s.sweep } = s))

/-- CONFIG READ, SENSOR READ, and CONFIG WRITE of a parameter with no behaviour of its own at the write (R185,
R186): a read answers the stored value, or the channel's entry and fault; a write stores its value and
answers OK, or stores the nearer end of the range and answers ADJUSTED; a code that names no parameter and a
channel above 63 answer BAD_REQUEST. Nothing else changes. The codes are those of Table 12-7, and the ranges
those of Table 11-4. -/
def Obligations.ConfigurationAnswered : Prop :=
  ∀ (f : Frame) (s : State), s.portReady = true →
    let v := f.byteAt 1 + 256 * f.byteAt 2
    let p := s.params
    let row : Param → ParamRow := fun q => match q with
      | .geometry .length => { code := 0x01, low := 100, high := 65535, stored := p.length, store := fun _ => p }
      | .geometry .circ => { code := 0x02, low := 100, high := 65535, stored := p.circ, store := fun _ => p }
      | .geometry .cell =>
        { code := 0x03, low := max 10 ((max p.length p.circ + 255) / 256), high := 4000
          stored := p.cell, store := fun _ => p }
      | .geometry (.ringPos i) =>
        { code := 0x20 + i.val, low := 0, high := p.length, stored := p.ringPos[i], store := fun _ => p }
      | .geometry (.colPos i) =>
        { code := 0x30 + i.val, low := 0, high := p.circ - 1, stored := p.colPos[i], store := fun _ => p }
      | .vel => { code := 0x04, low := 32, high := 1023, stored := p.vel, store := fun x => { p with vel := x } }
      | .w => { code := 0x05, low := 100, high := 65535, stored := p.w, store := fun x => { p with w := x } }
      | .settle => { code := 0x06, low := 1000, high := 65535, stored := p.settle, store := fun x => { p with settle := x } }
      | .minDuration => { code := 0x07, low := 0, high := 65535, stored := p.minDuration, store := fun x => { p with minDuration := x } }
      | .maxDuration => { code := 0x08, low := 0, high := 65535, stored := p.maxDuration, store := fun x => { p with maxDuration := x } }
      | .maxRise => { code := 0x09, low := 0, high := 255, stored := p.maxRise, store := fun x => { p with maxRise := x } }
      | .zonalFold => { code := 0x0A, low := 0, high := 1, stored := p.zonalFold, store := fun x => { p with zonalFold := x } }
      | .holdBand => { code := 0x0B, low := 1, high := 1000, stored := p.holdBand, store := fun x => { p with holdBand := x } }
      | .holdSamples => { code := 0x0C, low := 10, high := 60000, stored := p.holdSamples, store := fun x => { p with holdSamples := x } }
      | .unloadDelta => { code := 0x0D, low := 1, high := 10000, stored := p.unloadDelta, store := fun x => { p with unloadDelta := x } }
      | .reloadDelta => { code := 0x0E, low := 1, high := 10000, stored := p.reloadDelta, store := fun x => { p with reloadDelta := x } }
      | .ruptureDrop => { code := 0x0F, low := 10, high := 65535, stored := p.ruptureDrop, store := fun x => { p with ruptureDrop := x } }
      | .ruptureFloor => { code := 0x10, low := 0, high := 65535, stored := p.ruptureFloor, store := fun x => { p with ruptureFloor := x } }
      | .sampleTimeout => { code := 0x11, low := 10, high := 60000, stored := p.sampleTimeout, store := fun x => { p with sampleTimeout := x } }
      | .confirm => { code := 0x12, low := 1, high := 255, stored := p.confirm, store := fun x => { p with confirm := x } }
      | .highAmp => { code := 0x13, low := 0, high := 100, stored := p.highAmp, store := fun x => { p with highAmp := x } }
      | .highAmpLimit => { code := 0x14, low := 1, high := 65535, stored := p.highAmpLimit, store := fun x => { p with highAmpLimit := x } }
      | .holdLimit => { code := 0x15, low := 1, high := 255, stored := p.holdLimit, store := fun x => { p with holdLimit := x } }
      | .felicityLimit => { code := 0x16, low := 500, high := 1000, stored := p.felicityLimit, store := fun x => { p with felicityLimit := x } }
      | .actHigh => { code := 0x17, low := 1, high := 65535, stored := p.actHigh, store := fun x => { p with actHigh := x } }
      | .retireIdle => { code := 0x18, low := 1, high := 255, stored := p.retireIdle, store := fun x => { p with retireIdle := x } }
      | .sweepInterval => { code := 0x19, low := 10, high := 60000, stored := p.sweepInterval, store := fun x => { p with sweepInterval := x } }
      | .policy => { code := 0x1A, low := 0, high := 1, stored := p.policy, store := fun x => { p with policy := x } }
      | .starveLimit => { code := 0x1B, low := 1, high := 255, stored := p.starveLimit, store := fun x => { p with starveLimit := x } }
      | .lockLimit => { code := 0x1C, low := 1, high := 1000, stored := p.lockLimit, store := fun x => { p with lockLimit := x } }
      | .annEnable => { code := 0x1D, low := 0, high := 1, stored := p.annEnable, store := fun x => { p with annEnable := x } }
      | .annPeriod => { code := 0x1E, low := 5, high := 1000, stored := p.annPeriod, store := fun x => { p with annPeriod := x } }
    (formOk 0x03 f = true →
      (∀ q, f.byteAt 0 = (row q).code →
        exec (.configRead f) s = .next (s.answered f .ok (.config q (row q).stored))) ∧
      ((∀ q, f.byteAt 0 ≠ (row q).code) →
        exec (.configRead f) s = .next (s.answered f .badRequest .none))) ∧
    (formOk 0x05 f = true →
      (∀ c : Channel, f.byteAt 0 = c.val →
        exec (.sensorRead f) s = .next (s.answered f .ok (.sensor c s.sensors[c] s.intake.faults[c]))) ∧
      (64 ≤ f.byteAt 0 → exec (.sensorRead f) s = .next (s.answered f .badRequest .none))) ∧
    (formOk 0x04 f = true →
      (∀ q, f.byteAt 0 = (row q).code → (∀ g, q ≠ .geometry g) → q ≠ .sampleTimeout → q ≠ .lockLimit →
        q ≠ .annEnable →
        let low := (row q).low
        let high := (row q).high
        (low ≤ v → v ≤ high → exec (.configWrite f) s = .next
          (State.answered { s with params := (row q).store v } f .ok (.config q v))) ∧
        (v < low → exec (.configWrite f) s = .next
          (State.answered { s with params := (row q).store low } f .adjusted (.config q low))) ∧
        (high < v → exec (.configWrite f) s = .next
          (State.answered { s with params := (row q).store high } f .adjusted (.config q high)))) ∧
      ((∀ q, f.byteAt 0 ≠ (row q).code) →
        exec (.configWrite f) s = .next (s.answered f .badRequest .none)))

/-- The writes with an effect of their own (R69, R151, R174, R185): SAMPLE_TIMEOUT written at or below the
time elapsed makes the timeout expire at once; LOCK_LIMIT so written makes the lock expire at once, and its
own response carries LOCK_LOST (log entry 11); ANN_ENABLE stops or loads the annunciator timer. -/
def Obligations.OwnEffectWritesAnswered : Prop :=
  ∀ (flags : Byte) (v : BitVec 16) (s : State), s.portReady = true →
    (let f := configFrame flags .sampleTimeout v
      let x := max 10 (min 60000 v.toNat)
      let status : Status := if x = v.toNat then .ok else .adjusted
      let stored := { s with params := { s.params with sampleTimeout := x } }
      let expires := s.monitor.current.isSome = true ∧
        (x * 1000 : Int) ≤ ((s.now : Int) - s.monitor.stamp) % 2 ^ 48
      (¬expires → exec (.sampleTimeoutWrite flags v) s = .next
        (stored.answered f status (.config .sampleTimeout x))) ∧
      (expires → exec (.sampleTimeoutWrite flags v) s = .next
        ({ stored with
            monitor := { s.monitor with phase := .noPressure, current := none, holdCount := 0 }
            latches := { s.latches with pressureStale := true } }.answered f status
          (.config .sampleTimeout x)))) ∧
    (let f := configFrame flags .lockLimit v
      let x := max 1 (min 1000 v.toNat)
      let status : Status := if x = v.toNat then .ok else .adjusted
      let stored := { s with params := { s.params with lockLimit := x } }
      let expires := s.arbiter.locked = true ∧ s.arbiter.breaking = false ∧
        (x * 1000 : Int) ≤ ((s.now : Int) - s.arbiter.acquired) % 2 ^ 48
      (¬expires → exec (.lockLimitWrite flags v) s = .next
        (stored.answered f status (.config .lockLimit x))) ∧
      (expires → s.portBusyAtTable = false → exec (.lockLimitWrite flags v) s = .next
        ({ stored with
            arbiter := { s.arbiter with locked := false, lockLost := true }
            latches := { s.latches with lockBroken := true } }.answered f status
          (.config .lockLimit x)))) ∧
    (let f := configFrame flags .annEnable v
      let x := min 1 v.toNat
      let status : Status := if x = v.toNat then .ok else .adjusted
      let stored := { s with params := { s.params with annEnable := x } }
      (s.params.annEnable = x → exec (.annEnableWrite flags v) s = .next
        (stored.answered f status (.config .annEnable x))) ∧
      (s.params.annEnable ≠ x → x = 0 → exec (.annEnableWrite flags v) s = .next
        ({ stored with annunciator := { s.annunciator with timer := none } }.answered f status
          (.config .annEnable x))) ∧
      (s.params.annEnable ≠ x → x = 1 → exec (.annEnableWrite flags v) s = .next
        ({ stored with annunciator := { s.annunciator with
              timer := some { elapsed := 0, interval := s.params.annPeriod * 1000 } } }.answered f status
          (.config .annEnable x))))

/-- R181: SET VIEW in long form sets the view base to a cell of the grid and answers OK, or OUT_OF_GRID with
the base kept; in short form it leaves the base and answers IGNORED. It acts in every run state, and RESET
sets the base to (0, 0). ENGINE RESET, the run transitions and geometry writes leave it as it is. -/
def Obligations.ViewBaseRule : Prop :=
  (∀ (f : Frame) (s : State), s.portReady = true → formOk 0x16 f = true →
    let k : CellKey := { axial := f.byteAt 0, circ := f.byteAt 1 }
    (f.long = true → s.params.inGrid k = true → exec (.setView f) s = .next
      ({ s with port := { s.port with view := k } }.answered f .ok (.view k))) ∧
    (f.long = true → s.params.inGrid k = false →
      exec (.setView f) s = .next (s.answered f .outOfGrid .none)) ∧
    (f.long = false → exec (.setView f) s = .next (s.answered f .ignored (.view s.port.view)))) ∧
  State.reset.port.view = { axial := 0, circ := 0 } ∧
  (∀ (c : Instr) (s t : State), exec c s = .next t → c ≠ .reset → c ≠ .resetnRelease →
    (∀ f, c ≠ .setView f) → t.port.view = s.port.view)

/-! ### Run control -/

/-- START (R157): in SETUP with two channels enabled the pressure history starts anew (R79), every record's
onset and current hold are cleared (R103), the timer is loaded, settled lanes hunt, and the run is
LISTENING; elsewhere, or with fewer channels, it answers STATE and changes nothing. -/
def Obligations.StartAnswered : Prop :=
  ∀ (f : Frame) (s : State), s.portReady = true → formOk 0x10 f = true →
    let enabled := (List.finRange 64).filter fun c => s.sensors[c].enabled
    (s.run.state = .setup → 2 ≤ enabled.length →
      let pressure := s.monitor.current.getD 0
      let monitor := { s.monitor with
        cycle := 1, cyclePeak := pressure, priorPeak := 0, holdIndex := 0, cutoff := none }
      let hunt := fun (r : LaneReceiver) =>
        if s.intake.phase = .done then { r with state := .hunting } else r
      exec (.start f) s = .next (State.answered
        { s with
          monitor := if s.monitor.phase = .noPressure then monitor
            else { monitor with phase := .loading, holdRef := pressure, holdCount := 0 }
          table := { s.table with slots := s.table.slots.map fun e =>
            (e.1, { e.2 with onsetCycle := 0, onsetPressure := none, holdCurrent := 0, holdSeen := 0 }) }
          sweep := { s.sweep with
            timer := some { elapsed := 0, interval := s.params.sweepInterval * 10000 } }
          intake := { s.intake with laneA := hunt s.intake.laneA, laneB := hunt s.intake.laneB }
          run := { state := .listening, flavour := none } } f .ok .none)) ∧
    (s.run.state ≠ .setup ∨ enabled.length < 2 →
      exec (.start f) s = .next (s.answered f .state .none))

/-- STOP (R5, R18, R41, R139, R154, R158): refused with STATE in SETUP; otherwise, at once, or at the
completion of the fold or slice in progress, the lanes close, everything between the lanes and the table is
discarded, the sweep is abandoned, and the run is in SETUP. R95, R105 and R135 count within the fold or slice;
that the completion does so, before the STOP acts, is the model's reading, DEDUCED from R144 and R154 (log entry
8). Where the completion ends a drain, FROZEN is then entered first, and its latch is set (R160, R164, R167; the
order is the model's reading, log entry 16). -/
def Obligations.StopAnswered : Prop :=
  ∀ (f : Frame) (s : State), s.portReady = true → formOk 0x11 f = true →
    let close := fun (r : LaneReceiver) =>
      { r with slot := none, state := if r.state = .settling then .settling else .closed }
    let stopped : State :=
      { s with
        intake := { s.intake with
          fifo := [], laneA := close s.intake.laneA, laneB := close s.intake.laneB }
        former := { s.former with
          openSet := []
          aborteds := min 65535 (s.former.aborteds + s.former.openSet.length)
          queue := []
          eventDrops := min 65535 (s.former.eventDrops + s.former.queue.length) }
        sweep := { s.sweep with timer := none, backlog := 0, pass := false, cursor := 0 }
        zones := s.zones.map fun z => { z with building := 0 }
        run := { state := .setup, flavour := none } }
    let drained := fun (op : Operation) => s.run.state = .freezing ∧ (s.finished op).sweep.backlog = 0 ∧
      s.sweep.pass = false ∧
      ((s.run.flavour = some .requested ∧ ∀ e ∈ s.former.queue, e.held = true) ∨
        (s.run.flavour = some .rupture ∧ s.former.queue = [] ∧ s.former.openSet = []))
    (s.run.state = .setup → exec (.stop f) s = .next (s.answered f .state .none)) ∧
    (s.run.state ≠ .setup → s.backgroundBusy = false →
      exec (.stop f) s = .next (stopped.answered f .ok .none)) ∧
    (∀ op, s.run.state ≠ .setup → s.arbiter.operation = some op → op.requester ≠ .port →
      ∃ t, exec (.stop f) s = .next t ∧ exec .operationCompletion t = .next (State.answered
        { stopped with
          arbiter := { s.arbiter with operation := none }
          table := (s.finished op).table
          latches := { (s.finished op).latches with
            frozenReached := s.latches.frozenReached || decide (drained op) } } f .ok .none))

/-- FREEZE and THAW (R159, R160, R162): FREEZE in LISTENING stops the timer and is FREEZING with the REQUESTED
flavour, or FROZEN at once where nothing is left to drain; in FREEZING and FROZEN it changes nothing; in
SETUP it answers STATE. THAW under the REQUESTED flavour clears every mark, loads the timer and is
LISTENING; otherwise it answers STATE and changes nothing. -/
def Obligations.FreezeAndThawAnswered : Prop :=
  ∀ (f : Frame) (s : State), s.portReady = true →
    (formOk 0x12 f = true →
      let drained := s.former.queue.all (fun e => e.held) && s.sweep.backlog == 0 && !s.sweep.pass &&
        !s.backgroundBusy
      (s.run.state = .setup → exec (.freeze f) s = .next (s.answered f .state .none)) ∧
      (s.run.state = .freezing ∨ s.run.state = .frozen →
        exec (.freeze f) s = .next (s.answered f .ok .none)) ∧
      (s.run.state = .listening → exec (.freeze f) s = .next (State.answered
        { s with
          sweep := { s.sweep with timer := none }
          run := { state := if drained then .frozen else .freezing, flavour := some .requested }
          latches := { s.latches with frozenReached := s.latches.frozenReached || drained } } f
        .ok .none))) ∧
    (formOk 0x13 f = true →
      let thaws := (s.run.state = .freezing ∨ s.run.state = .frozen) ∧ s.run.flavour = some .requested
      (thaws → exec (.thaw f) s = .next (State.answered
        { s with
          former := { s.former with queue := s.former.queue.map fun e => { e with held := false } }
          sweep := { s.sweep with
            timer := some { elapsed := 0, interval := s.params.sweepInterval * 10000 } }
          run := { state := .listening, flavour := none } } f .ok .none)) ∧
      (¬thaws → exec (.thaw f) s = .next (s.answered f .state .none)))

/-- ENGINE RESET (R154, R165), at once, or at the completion of the fold or slice in progress: everything between
the lanes and the table is discarded, the sweep abandoned, the lock released, and FREEZING becomes FROZEN. R95,
R105 and R135 count within the fold or slice; that the completion does so, before the ENGINE RESET acts, is the
model's reading, DEDUCED from R144 and R154 (log entry 8). RESTART CHANNELS (R19, R21, R43, R164): the settle
phase is RESTART, both lanes are SETTLING, every FAULTED flag is clear, the FIFO, the slots and the open events
are gone, the Event Queue is kept, and a rupture drain with nothing else left is FROZEN. CHRST is active exactly
in RESTART, so from this request on. -/
def Obligations.EngineResetAndRestartAnswered : Prop :=
  ∀ (f : Frame) (s : State), s.portReady = true →
    let aborteds := min 65535 (s.former.aborteds + s.former.openSet.length)
    (formOk 0x14 f = true →
      let after : State :=
        { s with
          intake := { s.intake with
            fifo := []
            laneA := { s.intake.laneA with slot := none }
            laneB := { s.intake.laneB with slot := none } }
          former := { s.former with openSet := [], aborteds := aborteds, queue := [] }
          sweep := { s.sweep with backlog := 0, pass := false, cursor := 0 }
          zones := s.zones.map fun z => { z with building := 0 }
          arbiter := { s.arbiter with locked := false, breaking := false, starvation := 0 }
          run := { s.run with state := if s.run.state = .freezing then .frozen else s.run.state }
          latches := { s.latches with
            frozenReached := s.latches.frozenReached || decide (s.run.state = .freezing) } }
      (s.backgroundBusy = false →
        exec (.engineReset f) s = .next (after.answered f .ok .none)) ∧
      (∀ op, s.arbiter.operation = some op → op.requester ≠ .port →
        ∃ t, exec (.engineReset f) s = .next t ∧ exec .operationCompletion t = .next
          (State.answered
            { after with
              arbiter := { after.arbiter with operation := none }
              table := (s.finished op).table
              latches := { (s.finished op).latches with frozenReached := after.latches.frozenReached } } f
            .ok .none))) ∧
    (s.chrst = true ↔ s.intake.phase = .restart) ∧
    (formOk 0x15 f = true →
      let drained := s.run.state = .freezing ∧ s.run.flavour = some .rupture ∧ s.former.queue = [] ∧
        s.sweep.backlog = 0 ∧ s.sweep.pass = false ∧ s.backgroundBusy = false
      let t := State.answered
        { s with
          intake := { s.intake with
            fifo := []
            laneA := { s.intake.laneA with slot := none, state := .settling }
            laneB := { s.intake.laneB with slot := none, state := .settling }
            phase := .restart
            restartCount := 0
            faults := Vector.replicate 64 { faulted := false, code := 0 } }
          former := { s.former with openSet := [], aborteds := aborteds }
          run := { s.run with state := if drained then .frozen else s.run.state }
          latches := { s.latches with
            frozenReached := s.latches.frozenReached || decide drained } } f .ok .none
      exec (.restartChannels f) s = .next t ∧ t.chrst = true)

/-- REQUESTED_DRAIN_END and RUPTURE_DRAIN_END under their conditions (R160, R164, R167): the run is FROZEN
with the flavour kept, FROZEN_REACHED is set, and nothing else changes. -/
def Obligations.DrainsEnd : Prop :=
  ∀ s : State, s.steady = true → s.run.state = .freezing → s.sweep.backlog = 0 →
    s.sweep.pass = false → s.backgroundBusy = false →
    let frozen := { s with
      run := { s.run with state := .frozen }
      latches := { s.latches with frozenReached := true } }
    (s.run.flavour = some .requested → (∀ e ∈ s.former.queue, e.held = true) →
      exec .requestedDrainEnd s = .next frozen) ∧
    (s.run.flavour = some .rupture → s.former.queue = [] → s.former.openSet = [] →
      exec .ruptureDrainEnd s = .next frozen)

/-! ### Annunciator and port frames -/

/-- ANNUNCIATOR_FRAME_START at the end of the period (R172, R173, R175, R191): the timer starts again with
ANN_PERIOD as it stands, and a frame of 33 characters begins: the run marker as header, then for each pair
of zones a data character with their codes, all 0 in SETUP. Nothing else changes. A grant that is owed may come
before it or after it (R173). ANOUT is 1 while no frame is sent; within one it carries the bits of its characters
in order, 2.5 ticks each, on every tick that lies within one bit (a tick that two bits share: log entry 17). -/
def Obligations.FrameStarts : Prop :=
  (∀ s : State, s.annunciator.sending = none → s.anout = true) ∧
  (∀ (s : State) (x : Sending) (ch : Character) (i j : Nat), s.annunciator.sending = some x →
    x.characters[i]? = some ch → j < 12 → 5 * (12 * i + j) ≤ 2 * x.ticks →
    2 * (x.ticks + 1) ≤ 5 * (12 * i + j + 1) → s.anout = ch.getLsbD j) ∧
  ∀ (x : Timer) (s : State), s.resetAsserted = false → s.annunciator.timer = some x →
    x.interval ≤ x.elapsed →
    let marker := match s.run.state, s.run.flavour with
      | .setup, _ => 1
      | .listening, _ => 2
      | .freezing, some .rupture => 5
      | .frozen, some .rupture => 5
      | .freezing, _ => 3
      | .frozen, _ => 4
    let code := fun (c : Channel) =>
      if s.run.state = .setup then 0
      else s.zones[c].live % 4 + (if 0 < s.zones[c].unlocated then 4 else 0) +
        (if s.intake.faults[c].faulted = true then 8 else 0)
    ∃ chars : List Character,
      exec .annunciatorFrameStart s = .next
        { s with annunciator :=
            { timer := some { elapsed := 0, interval := s.params.annPeriod * 1000 }
              sending := some { characters := chars, ticks := 0 } } } ∧
      chars.length = 33 ∧
      (∃ h, chars[0]? = some h ∧ Carries true (BitVec.ofNat 8 marker) h ∧
        receive h = .header (BitVec.ofNat 8 marker)) ∧
      ∀ i : Fin 32, ∃ ch, chars[i.val + 1]? = some ch ∧
        let pair :=
          BitVec.ofNat 8 (code ⟨2 * i.val, by omega⟩ + 16 * code ⟨2 * i.val + 1, by omega⟩)
        Carries false pair ch ∧ receive ch = .data pair

/-- A read frame (R177 to R179, R192, R194). READY stands exactly while a response is pending. With one pending,
SDO carries 0xFF in the first byte (the model's reading, log entry 10), then the response, laid out as Tables
12-4 and 12-6 to 12-10 give it (`ResponseLayout`), with COLLIDED as the collision flag stands, and filler after
it; a frame that clocks out every byte discards the response and clears the collision flag, and a shorter one
keeps both. Where a request frame is taken at the moment of the read's end (`overtaken`, log entry 25) it
collides, and a read that completes clears that collision unreported. With none pending SDO carries filler and
nothing changes. Each byte is clocked most significant bit first. A frame with no complete byte changes
nothing. -/
def Obligations.ResponseRead : Prop :=
  ∀ (read : ReadFrame) (s : State), s.steady = true →
    let n := read.bytes
    (s.ready = true ↔ s.port.response ≠ none) ∧ (n = 0 → exec (.responseRead read) s = .next s) ∧
    (1 ≤ n → s.port.response = none → exec (.responseRead read) s = .next
      { s with port := { s.port with sdo := List.replicate n 0xFF } }) ∧
    (∀ r, 1 ≤ n → s.port.response = some r → ∃ bytes, ResponseLayout r s.port.collision bytes ∧
      (bytes.length + 1 ≤ n → exec (.responseRead read) s = .next
        { s with port := { s.port with
            sdo := 0xFF :: bytes ++ List.replicate (n - 1 - bytes.length) 0xFF
            response := none
            collision := false } }) ∧
      (n < bytes.length + 1 → exec (.responseRead read) s = .next
        { s with port := { s.port with
            sdo := (0xFF :: bytes).take n
            collision := s.port.collision || read.overtaken } })) ∧
    s.sdoBits = s.port.sdo.flatMap fun b => (List.range 8).map fun j => b.getLsbD (7 - j)

/-- Request frames that are turned away (R176, R179, R180, R188): while the port is busy every request frame
collides and changes nothing but the collision flag and SDO; a frame whose form is wrong, or whose code is
unknown, is answered BAD_REQUEST; so are a SCAN grade above 3, a home channel above 63 and a MARK action of
binary 11, before the reference; and a cell outside the grid is answered OUT_OF_GRID. That UNKNOWN_REQUEST_CODE
answers BAD_REQUEST also for bytes that spell a read frame or a whole request, an ill-formed term which the decoder
never makes, is the model's choice (log entry 23) and not R176's. -/
def Obligations.FramesTurnedAway : Prop :=
  ∀ s : State, s.steady = true →
    (∀ (c : Instr) (bytes : List Byte), encodeFrame c = some bytes → (∀ r, c ≠ .responseRead r) →
      c.WellFormed = true → s.portBusy = true → exec c s = .next
        { s with port := { s.port with
            collision := true, sdo := List.replicate bytes.length 0xFF } }) ∧
    (s.portReady = true →
      (∀ (c : Instr) (code : Byte) (f : Frame), encodeFrame c = some (frameBytes code f) →
        (∀ r, c ≠ .responseRead r) → (∀ b, c ≠ .unknownRequestCode b) → formOk code.toNat f = false →
        exec c s = .next (s.answered f .badRequest .none)) ∧
      (∀ (code : Byte) (rest : List Byte), exec (.unknownRequestCode (code :: rest)) s = .next
        { s.answered { flags := rest.getD 0 0, length := 0, payload := [] } .badRequest .none with
          port := { s.port with
            response := some
              { status := .badRequest, lockLost := s.arbiter.lockLost, payload := .none }
            sdo := List.replicate (rest.length + 1) 0xFF } }) ∧
      (∀ f : Frame,
        let bad := s.answered f .badRequest .none
        let outside := s.answered f .outOfGrid .none
        let field := f.byteAt f.refBytes
        (formOk 0x21 f = true → 3 < field → exec (.scan f) s = .next bad) ∧
        (formOk 0x23 f = true → 63 < f.byteAt (f.refBytes + 2) → exec (.seed f) s = .next bad) ∧
        (formOk 0x24 f = true → field % 4 = 3 ∨ field / 4 % 4 = 3 → exec (.mark f) s = .next bad) ∧
        (s.resolveRef f = none →
          (formOk 0x20 f = true → exec (.lookup f) s = .next outside) ∧
          (formOk 0x21 f = true → field ≤ 3 → exec (.scan f) s = .next outside) ∧
          (formOk 0x23 f = true → f.byteAt (f.refBytes + 2) ≤ 63 → exec (.seed f) s = .next outside) ∧
          (formOk 0x24 f = true → field % 4 ≠ 3 → field / 4 % 4 ≠ 3 →
            exec (.mark f) s = .next outside) ∧
          (formOk 0x25 f = true → exec (.clearStats f) s = .next outside) ∧
          (formOk 0x26 f = true → exec (.retire f) s = .next outside))))

/-! ### Decode and encode -/

/-- Decode and encode agree: the bytes of the SPI frame of every well-formed port command decode to that
command (R176, R192, Table 12-5), and so do its bits, each byte most significant bit first, with fewer than 8
more bits after the last byte (R192). On the input lanes (R4, R191) a line that is at 1 between its characters, and
held at 1 before and after them, delivers exactly its characters; each is decoded as a header, a data character or a
character error by its bits; and 12 bits without a start bit of 0 are no command. -/
def Obligations.DecodeOfEncode : Prop :=
  (∀ (i : Instr) (bytes : List Byte), i.WellFormed = true → encodeFrame i = some bytes →
    decodeFrame bytes = some i ∧
    ∀ tail : List Bool, tail.length < 8 →
      decodeBits ((bytes.flatMap fun b => (List.range 8).map fun j => b.getLsbD (7 - j)) ++ tail) = some i) ∧
  (∀ (line : List (Nat × Character)) (after : Nat), (∀ e ∈ line, e.2.getLsbD 0 = false) →
    lineCharacters ((line.flatMap fun e =>
        List.replicate e.1 true ++ (List.range 12).map fun j => e.2.getLsbD j) ++
      List.replicate after true) = line.map (·.2)) ∧
  (∀ (l : Lane) (ch : Character),
    (∀ b, Carries true b ch →
      decodeHitCharacter l ch = some (.hitLaneHeader l ch) ∧ decodePlinCharacter ch = some (.plinHeader ch)) ∧
    (∀ b, Carries false b ch → decodeHitCharacter l ch = some (.hitLaneDataCharacter l ch) ∧
      decodePlinCharacter ch = some (.plinDataCharacter ch)) ∧
    (Faulty ch → decodeHitCharacter l ch = some (.hitLaneCharacterError l ch) ∧
      decodePlinCharacter ch = some (.plinCharacterError ch)) ∧
    (ch.getLsbD 0 = true → decodeHitCharacter l ch = none ∧ decodePlinCharacter ch = none))

/-- Every SPI frame with a complete byte decodes to a well-formed command, and the bytes of every request
frame are the encoding of what they decode to: no bit is dropped (R176, R192). -/
def Obligations.EncodeOfDecode : Prop :=
  ∀ (code : Byte) (rest : List Byte), ∃ i, decodeFrame (code :: rest) = some i ∧ i.WellFormed = true ∧
    (code ≠ 0x5A → encodeFrame i = some (code :: rest))

/-! ### Laws that every step keeps -/

/-- The state after RESET keeps every law. -/
def Obligations.LawsAtReset : Prop :=
  CapacityLaw State.reset ∧ ZoneLaw State.reset ∧ CutoffLaw State.reset ∧ RunLaw State.reset ∧
    PortLaw State.reset ∧ ParamLaw State.reset.params ∧ SensorLaw State.reset

/-- R82, R118 and R169: every step keeps the law of the table and of its records, and the zone law that rests
on it: no zone's live grade is below the grade of a live, unmuted record of that zone. -/
def Obligations.StepKeepsZoneLaw : Prop :=
  ∀ s t : State, ZoneLaw s → step s = .next t → ZoneLaw t

/-- No step lets a queue, a member list, the Open Event Set or the backlog pass its size; and while a rupture is
latched no step lets an open event or a queue entry with a first-hit time later than the cutoff stand, so
that none is folded (R17, R23, R27, R35, R129, R163). -/
def Obligations.StepKeepsEventPathLaws : Prop :=
  ∀ s t : State, step s = .next t →
    (CapacityLaw s → CapacityLaw t) ∧ (CutoffLaw s → CutoffLaw t)

/-- Every step keeps what the run state means to the other blocks. -/
def Obligations.StepKeepsRunLaw : Prop :=
  ∀ s t : State, RunLaw s → step s = .next t → RunLaw t

/-- Every step keeps the order of requests and operations between the port and the Arbiter. -/
def Obligations.StepKeepsPortLaw : Prop :=
  ∀ s t : State, PortLaw s → step s = .next t → PortLaw t

/-- Every step keeps every parameter in its range, and the positions of enabled channels distinct (R48, R49,
R52, R185). -/
def Obligations.StepKeepsConfigurationLaw : Prop :=
  ∀ s t : State, ParamLaw s.params → SensorLaw s → step s = .next t → ParamLaw t.params ∧ SensorLaw t
end

