-- ==== Sys2Proof/Laws/State.lean ====
section
/-! SUPPORT. What each update of one block leaves in each field of the state, true by definition. -/

namespace Sys2Proof.Machine

/-! ### `State.updIntake` -/

@[simp] theorem State.updIntake_pending (s : State) (f : Intake → Intake) : (s.updIntake f).pending = s.pending := rfl
@[simp] theorem State.updIntake_resetAsserted (s : State) (f : Intake → Intake) : (s.updIntake f).resetAsserted = s.resetAsserted := rfl
@[simp] theorem State.updIntake_now (s : State) (f : Intake → Intake) : (s.updIntake f).now = s.now := rfl
@[simp] theorem State.updIntake_tbmark (s : State) (f : Intake → Intake) : (s.updIntake f).tbmark = s.tbmark := rfl
@[simp] theorem State.updIntake_intake (s : State) (f : Intake → Intake) : (s.updIntake f).intake = f s.intake := rfl
@[simp] theorem State.updIntake_former (s : State) (f : Intake → Intake) : (s.updIntake f).former = s.former := rfl
@[simp] theorem State.updIntake_plin (s : State) (f : Intake → Intake) : (s.updIntake f).plin = s.plin := rfl
@[simp] theorem State.updIntake_monitor (s : State) (f : Intake → Intake) : (s.updIntake f).monitor = s.monitor := rfl
@[simp] theorem State.updIntake_table (s : State) (f : Intake → Intake) : (s.updIntake f).table = s.table := rfl
@[simp] theorem State.updIntake_sweep (s : State) (f : Intake → Intake) : (s.updIntake f).sweep = s.sweep := rfl
@[simp] theorem State.updIntake_arbiter (s : State) (f : Intake → Intake) : (s.updIntake f).arbiter = s.arbiter := rfl
@[simp] theorem State.updIntake_run (s : State) (f : Intake → Intake) : (s.updIntake f).run = s.run := rfl
@[simp] theorem State.updIntake_zones (s : State) (f : Intake → Intake) : (s.updIntake f).zones = s.zones := rfl
@[simp] theorem State.updIntake_annunciator (s : State) (f : Intake → Intake) : (s.updIntake f).annunciator = s.annunciator := rfl
@[simp] theorem State.updIntake_port (s : State) (f : Intake → Intake) : (s.updIntake f).port = s.port := rfl
@[simp] theorem State.updIntake_latches (s : State) (f : Intake → Intake) : (s.updIntake f).latches = s.latches := rfl
@[simp] theorem State.updIntake_params (s : State) (f : Intake → Intake) : (s.updIntake f).params = s.params := rfl
@[simp] theorem State.updIntake_sensors (s : State) (f : Intake → Intake) : (s.updIntake f).sensors = s.sensors := rfl

/-! ### `State.updFormer` -/

@[simp] theorem State.updFormer_pending (s : State) (f : Former → Former) : (s.updFormer f).pending = s.pending := rfl
@[simp] theorem State.updFormer_resetAsserted (s : State) (f : Former → Former) : (s.updFormer f).resetAsserted = s.resetAsserted := rfl
@[simp] theorem State.updFormer_now (s : State) (f : Former → Former) : (s.updFormer f).now = s.now := rfl
@[simp] theorem State.updFormer_tbmark (s : State) (f : Former → Former) : (s.updFormer f).tbmark = s.tbmark := rfl
@[simp] theorem State.updFormer_intake (s : State) (f : Former → Former) : (s.updFormer f).intake = s.intake := rfl
@[simp] theorem State.updFormer_former (s : State) (f : Former → Former) : (s.updFormer f).former = f s.former := rfl
@[simp] theorem State.updFormer_plin (s : State) (f : Former → Former) : (s.updFormer f).plin = s.plin := rfl
@[simp] theorem State.updFormer_monitor (s : State) (f : Former → Former) : (s.updFormer f).monitor = s.monitor := rfl
@[simp] theorem State.updFormer_table (s : State) (f : Former → Former) : (s.updFormer f).table = s.table := rfl
@[simp] theorem State.updFormer_sweep (s : State) (f : Former → Former) : (s.updFormer f).sweep = s.sweep := rfl
@[simp] theorem State.updFormer_arbiter (s : State) (f : Former → Former) : (s.updFormer f).arbiter = s.arbiter := rfl
@[simp] theorem State.updFormer_run (s : State) (f : Former → Former) : (s.updFormer f).run = s.run := rfl
@[simp] theorem State.updFormer_zones (s : State) (f : Former → Former) : (s.updFormer f).zones = s.zones := rfl
@[simp] theorem State.updFormer_annunciator (s : State) (f : Former → Former) : (s.updFormer f).annunciator = s.annunciator := rfl
@[simp] theorem State.updFormer_port (s : State) (f : Former → Former) : (s.updFormer f).port = s.port := rfl
@[simp] theorem State.updFormer_latches (s : State) (f : Former → Former) : (s.updFormer f).latches = s.latches := rfl
@[simp] theorem State.updFormer_params (s : State) (f : Former → Former) : (s.updFormer f).params = s.params := rfl
@[simp] theorem State.updFormer_sensors (s : State) (f : Former → Former) : (s.updFormer f).sensors = s.sensors := rfl

/-! ### `State.updPlin` -/

@[simp] theorem State.updPlin_pending (s : State) (f : Plin → Plin) : (s.updPlin f).pending = s.pending := rfl
@[simp] theorem State.updPlin_resetAsserted (s : State) (f : Plin → Plin) : (s.updPlin f).resetAsserted = s.resetAsserted := rfl
@[simp] theorem State.updPlin_now (s : State) (f : Plin → Plin) : (s.updPlin f).now = s.now := rfl
@[simp] theorem State.updPlin_tbmark (s : State) (f : Plin → Plin) : (s.updPlin f).tbmark = s.tbmark := rfl
@[simp] theorem State.updPlin_intake (s : State) (f : Plin → Plin) : (s.updPlin f).intake = s.intake := rfl
@[simp] theorem State.updPlin_former (s : State) (f : Plin → Plin) : (s.updPlin f).former = s.former := rfl
@[simp] theorem State.updPlin_plin (s : State) (f : Plin → Plin) : (s.updPlin f).plin = f s.plin := rfl
@[simp] theorem State.updPlin_monitor (s : State) (f : Plin → Plin) : (s.updPlin f).monitor = s.monitor := rfl
@[simp] theorem State.updPlin_table (s : State) (f : Plin → Plin) : (s.updPlin f).table = s.table := rfl
@[simp] theorem State.updPlin_sweep (s : State) (f : Plin → Plin) : (s.updPlin f).sweep = s.sweep := rfl
@[simp] theorem State.updPlin_arbiter (s : State) (f : Plin → Plin) : (s.updPlin f).arbiter = s.arbiter := rfl
@[simp] theorem State.updPlin_run (s : State) (f : Plin → Plin) : (s.updPlin f).run = s.run := rfl
@[simp] theorem State.updPlin_zones (s : State) (f : Plin → Plin) : (s.updPlin f).zones = s.zones := rfl
@[simp] theorem State.updPlin_annunciator (s : State) (f : Plin → Plin) : (s.updPlin f).annunciator = s.annunciator := rfl
@[simp] theorem State.updPlin_port (s : State) (f : Plin → Plin) : (s.updPlin f).port = s.port := rfl
@[simp] theorem State.updPlin_latches (s : State) (f : Plin → Plin) : (s.updPlin f).latches = s.latches := rfl
@[simp] theorem State.updPlin_params (s : State) (f : Plin → Plin) : (s.updPlin f).params = s.params := rfl
@[simp] theorem State.updPlin_sensors (s : State) (f : Plin → Plin) : (s.updPlin f).sensors = s.sensors := rfl

/-! ### `State.updMonitor` -/

@[simp] theorem State.updMonitor_pending (s : State) (f : Monitor → Monitor) : (s.updMonitor f).pending = s.pending := rfl
@[simp] theorem State.updMonitor_resetAsserted (s : State) (f : Monitor → Monitor) : (s.updMonitor f).resetAsserted = s.resetAsserted := rfl
@[simp] theorem State.updMonitor_now (s : State) (f : Monitor → Monitor) : (s.updMonitor f).now = s.now := rfl
@[simp] theorem State.updMonitor_tbmark (s : State) (f : Monitor → Monitor) : (s.updMonitor f).tbmark = s.tbmark := rfl
@[simp] theorem State.updMonitor_intake (s : State) (f : Monitor → Monitor) : (s.updMonitor f).intake = s.intake := rfl
@[simp] theorem State.updMonitor_former (s : State) (f : Monitor → Monitor) : (s.updMonitor f).former = s.former := rfl
@[simp] theorem State.updMonitor_plin (s : State) (f : Monitor → Monitor) : (s.updMonitor f).plin = s.plin := rfl
@[simp] theorem State.updMonitor_monitor (s : State) (f : Monitor → Monitor) : (s.updMonitor f).monitor = f s.monitor := rfl
@[simp] theorem State.updMonitor_table (s : State) (f : Monitor → Monitor) : (s.updMonitor f).table = s.table := rfl
@[simp] theorem State.updMonitor_sweep (s : State) (f : Monitor → Monitor) : (s.updMonitor f).sweep = s.sweep := rfl
@[simp] theorem State.updMonitor_arbiter (s : State) (f : Monitor → Monitor) : (s.updMonitor f).arbiter = s.arbiter := rfl
@[simp] theorem State.updMonitor_run (s : State) (f : Monitor → Monitor) : (s.updMonitor f).run = s.run := rfl
@[simp] theorem State.updMonitor_zones (s : State) (f : Monitor → Monitor) : (s.updMonitor f).zones = s.zones := rfl
@[simp] theorem State.updMonitor_annunciator (s : State) (f : Monitor → Monitor) : (s.updMonitor f).annunciator = s.annunciator := rfl
@[simp] theorem State.updMonitor_port (s : State) (f : Monitor → Monitor) : (s.updMonitor f).port = s.port := rfl
@[simp] theorem State.updMonitor_latches (s : State) (f : Monitor → Monitor) : (s.updMonitor f).latches = s.latches := rfl
@[simp] theorem State.updMonitor_params (s : State) (f : Monitor → Monitor) : (s.updMonitor f).params = s.params := rfl
@[simp] theorem State.updMonitor_sensors (s : State) (f : Monitor → Monitor) : (s.updMonitor f).sensors = s.sensors := rfl

/-! ### `State.updTable` -/

@[simp] theorem State.updTable_pending (s : State) (f : SourceTable → SourceTable) : (s.updTable f).pending = s.pending := rfl
@[simp] theorem State.updTable_resetAsserted (s : State) (f : SourceTable → SourceTable) : (s.updTable f).resetAsserted = s.resetAsserted := rfl
@[simp] theorem State.updTable_now (s : State) (f : SourceTable → SourceTable) : (s.updTable f).now = s.now := rfl
@[simp] theorem State.updTable_tbmark (s : State) (f : SourceTable → SourceTable) : (s.updTable f).tbmark = s.tbmark := rfl
@[simp] theorem State.updTable_intake (s : State) (f : SourceTable → SourceTable) : (s.updTable f).intake = s.intake := rfl
@[simp] theorem State.updTable_former (s : State) (f : SourceTable → SourceTable) : (s.updTable f).former = s.former := rfl
@[simp] theorem State.updTable_plin (s : State) (f : SourceTable → SourceTable) : (s.updTable f).plin = s.plin := rfl
@[simp] theorem State.updTable_monitor (s : State) (f : SourceTable → SourceTable) : (s.updTable f).monitor = s.monitor := rfl
@[simp] theorem State.updTable_table (s : State) (f : SourceTable → SourceTable) : (s.updTable f).table = f s.table := rfl
@[simp] theorem State.updTable_sweep (s : State) (f : SourceTable → SourceTable) : (s.updTable f).sweep = s.sweep := rfl
@[simp] theorem State.updTable_arbiter (s : State) (f : SourceTable → SourceTable) : (s.updTable f).arbiter = s.arbiter := rfl
@[simp] theorem State.updTable_run (s : State) (f : SourceTable → SourceTable) : (s.updTable f).run = s.run := rfl
@[simp] theorem State.updTable_zones (s : State) (f : SourceTable → SourceTable) : (s.updTable f).zones = s.zones := rfl
@[simp] theorem State.updTable_annunciator (s : State) (f : SourceTable → SourceTable) : (s.updTable f).annunciator = s.annunciator := rfl
@[simp] theorem State.updTable_port (s : State) (f : SourceTable → SourceTable) : (s.updTable f).port = s.port := rfl
@[simp] theorem State.updTable_latches (s : State) (f : SourceTable → SourceTable) : (s.updTable f).latches = s.latches := rfl
@[simp] theorem State.updTable_params (s : State) (f : SourceTable → SourceTable) : (s.updTable f).params = s.params := rfl
@[simp] theorem State.updTable_sensors (s : State) (f : SourceTable → SourceTable) : (s.updTable f).sensors = s.sensors := rfl

/-! ### `State.updSweep` -/

@[simp] theorem State.updSweep_pending (s : State) (f : Sweep → Sweep) : (s.updSweep f).pending = s.pending := rfl
@[simp] theorem State.updSweep_resetAsserted (s : State) (f : Sweep → Sweep) : (s.updSweep f).resetAsserted = s.resetAsserted := rfl
@[simp] theorem State.updSweep_now (s : State) (f : Sweep → Sweep) : (s.updSweep f).now = s.now := rfl
@[simp] theorem State.updSweep_tbmark (s : State) (f : Sweep → Sweep) : (s.updSweep f).tbmark = s.tbmark := rfl
@[simp] theorem State.updSweep_intake (s : State) (f : Sweep → Sweep) : (s.updSweep f).intake = s.intake := rfl
@[simp] theorem State.updSweep_former (s : State) (f : Sweep → Sweep) : (s.updSweep f).former = s.former := rfl
@[simp] theorem State.updSweep_plin (s : State) (f : Sweep → Sweep) : (s.updSweep f).plin = s.plin := rfl
@[simp] theorem State.updSweep_monitor (s : State) (f : Sweep → Sweep) : (s.updSweep f).monitor = s.monitor := rfl
@[simp] theorem State.updSweep_table (s : State) (f : Sweep → Sweep) : (s.updSweep f).table = s.table := rfl
@[simp] theorem State.updSweep_sweep (s : State) (f : Sweep → Sweep) : (s.updSweep f).sweep = f s.sweep := rfl
@[simp] theorem State.updSweep_arbiter (s : State) (f : Sweep → Sweep) : (s.updSweep f).arbiter = s.arbiter := rfl
@[simp] theorem State.updSweep_run (s : State) (f : Sweep → Sweep) : (s.updSweep f).run = s.run := rfl
@[simp] theorem State.updSweep_zones (s : State) (f : Sweep → Sweep) : (s.updSweep f).zones = s.zones := rfl
@[simp] theorem State.updSweep_annunciator (s : State) (f : Sweep → Sweep) : (s.updSweep f).annunciator = s.annunciator := rfl
@[simp] theorem State.updSweep_port (s : State) (f : Sweep → Sweep) : (s.updSweep f).port = s.port := rfl
@[simp] theorem State.updSweep_latches (s : State) (f : Sweep → Sweep) : (s.updSweep f).latches = s.latches := rfl
@[simp] theorem State.updSweep_params (s : State) (f : Sweep → Sweep) : (s.updSweep f).params = s.params := rfl
@[simp] theorem State.updSweep_sensors (s : State) (f : Sweep → Sweep) : (s.updSweep f).sensors = s.sensors := rfl

/-! ### `State.updArbiter` -/

@[simp] theorem State.updArbiter_pending (s : State) (f : Arbiter → Arbiter) : (s.updArbiter f).pending = s.pending := rfl
@[simp] theorem State.updArbiter_resetAsserted (s : State) (f : Arbiter → Arbiter) : (s.updArbiter f).resetAsserted = s.resetAsserted := rfl
@[simp] theorem State.updArbiter_now (s : State) (f : Arbiter → Arbiter) : (s.updArbiter f).now = s.now := rfl
@[simp] theorem State.updArbiter_tbmark (s : State) (f : Arbiter → Arbiter) : (s.updArbiter f).tbmark = s.tbmark := rfl
@[simp] theorem State.updArbiter_intake (s : State) (f : Arbiter → Arbiter) : (s.updArbiter f).intake = s.intake := rfl
@[simp] theorem State.updArbiter_former (s : State) (f : Arbiter → Arbiter) : (s.updArbiter f).former = s.former := rfl
@[simp] theorem State.updArbiter_plin (s : State) (f : Arbiter → Arbiter) : (s.updArbiter f).plin = s.plin := rfl
@[simp] theorem State.updArbiter_monitor (s : State) (f : Arbiter → Arbiter) : (s.updArbiter f).monitor = s.monitor := rfl
@[simp] theorem State.updArbiter_table (s : State) (f : Arbiter → Arbiter) : (s.updArbiter f).table = s.table := rfl
@[simp] theorem State.updArbiter_sweep (s : State) (f : Arbiter → Arbiter) : (s.updArbiter f).sweep = s.sweep := rfl
@[simp] theorem State.updArbiter_arbiter (s : State) (f : Arbiter → Arbiter) : (s.updArbiter f).arbiter = f s.arbiter := rfl
@[simp] theorem State.updArbiter_run (s : State) (f : Arbiter → Arbiter) : (s.updArbiter f).run = s.run := rfl
@[simp] theorem State.updArbiter_zones (s : State) (f : Arbiter → Arbiter) : (s.updArbiter f).zones = s.zones := rfl
@[simp] theorem State.updArbiter_annunciator (s : State) (f : Arbiter → Arbiter) : (s.updArbiter f).annunciator = s.annunciator := rfl
@[simp] theorem State.updArbiter_port (s : State) (f : Arbiter → Arbiter) : (s.updArbiter f).port = s.port := rfl
@[simp] theorem State.updArbiter_latches (s : State) (f : Arbiter → Arbiter) : (s.updArbiter f).latches = s.latches := rfl
@[simp] theorem State.updArbiter_params (s : State) (f : Arbiter → Arbiter) : (s.updArbiter f).params = s.params := rfl
@[simp] theorem State.updArbiter_sensors (s : State) (f : Arbiter → Arbiter) : (s.updArbiter f).sensors = s.sensors := rfl

/-! ### `State.updOperation` -/

@[simp] theorem State.updOperation_pending (s : State) (f : Operation → Operation) :
    (s.updOperation f).pending = s.pending := rfl
@[simp] theorem State.updOperation_resetAsserted (s : State) (f : Operation → Operation) :
    (s.updOperation f).resetAsserted = s.resetAsserted := rfl
@[simp] theorem State.updOperation_now (s : State) (f : Operation → Operation) :
    (s.updOperation f).now = s.now := rfl
@[simp] theorem State.updOperation_tbmark (s : State) (f : Operation → Operation) :
    (s.updOperation f).tbmark = s.tbmark := rfl
@[simp] theorem State.updOperation_intake (s : State) (f : Operation → Operation) :
    (s.updOperation f).intake = s.intake := rfl
@[simp] theorem State.updOperation_former (s : State) (f : Operation → Operation) :
    (s.updOperation f).former = s.former := rfl
@[simp] theorem State.updOperation_plin (s : State) (f : Operation → Operation) :
    (s.updOperation f).plin = s.plin := rfl
@[simp] theorem State.updOperation_monitor (s : State) (f : Operation → Operation) :
    (s.updOperation f).monitor = s.monitor := rfl
@[simp] theorem State.updOperation_table (s : State) (f : Operation → Operation) :
    (s.updOperation f).table = s.table := rfl
@[simp] theorem State.updOperation_sweep (s : State) (f : Operation → Operation) :
    (s.updOperation f).sweep = s.sweep := rfl
@[simp] theorem State.updOperation_run (s : State) (f : Operation → Operation) :
    (s.updOperation f).run = s.run := rfl
@[simp] theorem State.updOperation_zones (s : State) (f : Operation → Operation) :
    (s.updOperation f).zones = s.zones := rfl
@[simp] theorem State.updOperation_annunciator (s : State) (f : Operation → Operation) :
    (s.updOperation f).annunciator = s.annunciator := rfl
@[simp] theorem State.updOperation_port (s : State) (f : Operation → Operation) :
    (s.updOperation f).port = s.port := rfl
@[simp] theorem State.updOperation_latches (s : State) (f : Operation → Operation) :
    (s.updOperation f).latches = s.latches := rfl
@[simp] theorem State.updOperation_params (s : State) (f : Operation → Operation) :
    (s.updOperation f).params = s.params := rfl
@[simp] theorem State.updOperation_sensors (s : State) (f : Operation → Operation) :
    (s.updOperation f).sensors = s.sensors := rfl
@[simp] theorem State.updOperation_arbiter (s : State) (f : Operation → Operation) :
    (s.updOperation f).arbiter = { s.arbiter with operation := s.arbiter.operation.map f } := rfl

/-! ### `State.updPort` -/

@[simp] theorem State.updPort_pending (s : State) (f : Port → Port) : (s.updPort f).pending = s.pending := rfl
@[simp] theorem State.updPort_resetAsserted (s : State) (f : Port → Port) : (s.updPort f).resetAsserted = s.resetAsserted := rfl
@[simp] theorem State.updPort_now (s : State) (f : Port → Port) : (s.updPort f).now = s.now := rfl
@[simp] theorem State.updPort_tbmark (s : State) (f : Port → Port) : (s.updPort f).tbmark = s.tbmark := rfl
@[simp] theorem State.updPort_intake (s : State) (f : Port → Port) : (s.updPort f).intake = s.intake := rfl
@[simp] theorem State.updPort_former (s : State) (f : Port → Port) : (s.updPort f).former = s.former := rfl
@[simp] theorem State.updPort_plin (s : State) (f : Port → Port) : (s.updPort f).plin = s.plin := rfl
@[simp] theorem State.updPort_monitor (s : State) (f : Port → Port) : (s.updPort f).monitor = s.monitor := rfl
@[simp] theorem State.updPort_table (s : State) (f : Port → Port) : (s.updPort f).table = s.table := rfl
@[simp] theorem State.updPort_sweep (s : State) (f : Port → Port) : (s.updPort f).sweep = s.sweep := rfl
@[simp] theorem State.updPort_arbiter (s : State) (f : Port → Port) : (s.updPort f).arbiter = s.arbiter := rfl
@[simp] theorem State.updPort_run (s : State) (f : Port → Port) : (s.updPort f).run = s.run := rfl
@[simp] theorem State.updPort_zones (s : State) (f : Port → Port) : (s.updPort f).zones = s.zones := rfl
@[simp] theorem State.updPort_annunciator (s : State) (f : Port → Port) : (s.updPort f).annunciator = s.annunciator := rfl
@[simp] theorem State.updPort_port (s : State) (f : Port → Port) : (s.updPort f).port = f s.port := rfl
@[simp] theorem State.updPort_latches (s : State) (f : Port → Port) : (s.updPort f).latches = s.latches := rfl
@[simp] theorem State.updPort_params (s : State) (f : Port → Port) : (s.updPort f).params = s.params := rfl
@[simp] theorem State.updPort_sensors (s : State) (f : Port → Port) : (s.updPort f).sensors = s.sensors := rfl

/-! ### `State.updLatches` -/

@[simp] theorem State.updLatches_pending (s : State) (f : Latches → Latches) : (s.updLatches f).pending = s.pending := rfl
@[simp] theorem State.updLatches_resetAsserted (s : State) (f : Latches → Latches) : (s.updLatches f).resetAsserted = s.resetAsserted := rfl
@[simp] theorem State.updLatches_now (s : State) (f : Latches → Latches) : (s.updLatches f).now = s.now := rfl
@[simp] theorem State.updLatches_tbmark (s : State) (f : Latches → Latches) : (s.updLatches f).tbmark = s.tbmark := rfl
@[simp] theorem State.updLatches_intake (s : State) (f : Latches → Latches) : (s.updLatches f).intake = s.intake := rfl
@[simp] theorem State.updLatches_former (s : State) (f : Latches → Latches) : (s.updLatches f).former = s.former := rfl
@[simp] theorem State.updLatches_plin (s : State) (f : Latches → Latches) : (s.updLatches f).plin = s.plin := rfl
@[simp] theorem State.updLatches_monitor (s : State) (f : Latches → Latches) : (s.updLatches f).monitor = s.monitor := rfl
@[simp] theorem State.updLatches_table (s : State) (f : Latches → Latches) : (s.updLatches f).table = s.table := rfl
@[simp] theorem State.updLatches_sweep (s : State) (f : Latches → Latches) : (s.updLatches f).sweep = s.sweep := rfl
@[simp] theorem State.updLatches_arbiter (s : State) (f : Latches → Latches) : (s.updLatches f).arbiter = s.arbiter := rfl
@[simp] theorem State.updLatches_run (s : State) (f : Latches → Latches) : (s.updLatches f).run = s.run := rfl
@[simp] theorem State.updLatches_zones (s : State) (f : Latches → Latches) : (s.updLatches f).zones = s.zones := rfl
@[simp] theorem State.updLatches_annunciator (s : State) (f : Latches → Latches) : (s.updLatches f).annunciator = s.annunciator := rfl
@[simp] theorem State.updLatches_port (s : State) (f : Latches → Latches) : (s.updLatches f).port = s.port := rfl
@[simp] theorem State.updLatches_latches (s : State) (f : Latches → Latches) : (s.updLatches f).latches = f s.latches := rfl
@[simp] theorem State.updLatches_params (s : State) (f : Latches → Latches) : (s.updLatches f).params = s.params := rfl
@[simp] theorem State.updLatches_sensors (s : State) (f : Latches → Latches) : (s.updLatches f).sensors = s.sensors := rfl

/-! ### `State.mapZones` -/

@[simp] theorem State.mapZones_pending (s : State) (f : Zone → Zone) : (s.mapZones f).pending = s.pending := rfl
@[simp] theorem State.mapZones_resetAsserted (s : State) (f : Zone → Zone) : (s.mapZones f).resetAsserted = s.resetAsserted := rfl
@[simp] theorem State.mapZones_now (s : State) (f : Zone → Zone) : (s.mapZones f).now = s.now := rfl
@[simp] theorem State.mapZones_tbmark (s : State) (f : Zone → Zone) : (s.mapZones f).tbmark = s.tbmark := rfl
@[simp] theorem State.mapZones_intake (s : State) (f : Zone → Zone) : (s.mapZones f).intake = s.intake := rfl
@[simp] theorem State.mapZones_former (s : State) (f : Zone → Zone) : (s.mapZones f).former = s.former := rfl
@[simp] theorem State.mapZones_plin (s : State) (f : Zone → Zone) : (s.mapZones f).plin = s.plin := rfl
@[simp] theorem State.mapZones_monitor (s : State) (f : Zone → Zone) : (s.mapZones f).monitor = s.monitor := rfl
@[simp] theorem State.mapZones_table (s : State) (f : Zone → Zone) : (s.mapZones f).table = s.table := rfl
@[simp] theorem State.mapZones_sweep (s : State) (f : Zone → Zone) : (s.mapZones f).sweep = s.sweep := rfl
@[simp] theorem State.mapZones_arbiter (s : State) (f : Zone → Zone) : (s.mapZones f).arbiter = s.arbiter := rfl
@[simp] theorem State.mapZones_run (s : State) (f : Zone → Zone) : (s.mapZones f).run = s.run := rfl
@[simp] theorem State.mapZones_zones (s : State) (f : Zone → Zone) : (s.mapZones f).zones = s.zones.map f := rfl
@[simp] theorem State.mapZones_annunciator (s : State) (f : Zone → Zone) : (s.mapZones f).annunciator = s.annunciator := rfl
@[simp] theorem State.mapZones_port (s : State) (f : Zone → Zone) : (s.mapZones f).port = s.port := rfl
@[simp] theorem State.mapZones_latches (s : State) (f : Zone → Zone) : (s.mapZones f).latches = s.latches := rfl
@[simp] theorem State.mapZones_params (s : State) (f : Zone → Zone) : (s.mapZones f).params = s.params := rfl
@[simp] theorem State.mapZones_sensors (s : State) (f : Zone → Zone) : (s.mapZones f).sensors = s.sensors := rfl

/-! ### `State.updZone` -/

@[simp] theorem State.updZone_pending (s : State) (c : Channel) (f : Zone → Zone) :
    (s.updZone c f).pending = s.pending := rfl
@[simp] theorem State.updZone_resetAsserted (s : State) (c : Channel) (f : Zone → Zone) :
    (s.updZone c f).resetAsserted = s.resetAsserted := rfl
@[simp] theorem State.updZone_now (s : State) (c : Channel) (f : Zone → Zone) :
    (s.updZone c f).now = s.now := rfl
@[simp] theorem State.updZone_tbmark (s : State) (c : Channel) (f : Zone → Zone) :
    (s.updZone c f).tbmark = s.tbmark := rfl
@[simp] theorem State.updZone_intake (s : State) (c : Channel) (f : Zone → Zone) :
    (s.updZone c f).intake = s.intake := rfl
@[simp] theorem State.updZone_former (s : State) (c : Channel) (f : Zone → Zone) :
    (s.updZone c f).former = s.former := rfl
@[simp] theorem State.updZone_plin (s : State) (c : Channel) (f : Zone → Zone) :
    (s.updZone c f).plin = s.plin := rfl
@[simp] theorem State.updZone_monitor (s : State) (c : Channel) (f : Zone → Zone) :
    (s.updZone c f).monitor = s.monitor := rfl
@[simp] theorem State.updZone_table (s : State) (c : Channel) (f : Zone → Zone) :
    (s.updZone c f).table = s.table := rfl
@[simp] theorem State.updZone_sweep (s : State) (c : Channel) (f : Zone → Zone) :
    (s.updZone c f).sweep = s.sweep := rfl
@[simp] theorem State.updZone_arbiter (s : State) (c : Channel) (f : Zone → Zone) :
    (s.updZone c f).arbiter = s.arbiter := rfl
@[simp] theorem State.updZone_run (s : State) (c : Channel) (f : Zone → Zone) :
    (s.updZone c f).run = s.run := rfl
@[simp] theorem State.updZone_zones (s : State) (c : Channel) (f : Zone → Zone) :
    (s.updZone c f).zones = s.zones.set c (f s.zones[c]) := rfl
@[simp] theorem State.updZone_annunciator (s : State) (c : Channel) (f : Zone → Zone) :
    (s.updZone c f).annunciator = s.annunciator := rfl
@[simp] theorem State.updZone_port (s : State) (c : Channel) (f : Zone → Zone) :
    (s.updZone c f).port = s.port := rfl
@[simp] theorem State.updZone_latches (s : State) (c : Channel) (f : Zone → Zone) :
    (s.updZone c f).latches = s.latches := rfl
@[simp] theorem State.updZone_params (s : State) (c : Channel) (f : Zone → Zone) :
    (s.updZone c f).params = s.params := rfl
@[simp] theorem State.updZone_sensors (s : State) (c : Channel) (f : Zone → Zone) :
    (s.updZone c f).sensors = s.sensors := rfl

/-! ### `State.respond` -/

@[simp] theorem State.respond_pending (s : State) (hold : Bool) (status : Status) (payload : Payload) :
    (s.respond hold status payload).pending = s.pending := by cases hold <;> rfl
@[simp] theorem State.respond_resetAsserted (s : State) (hold : Bool) (status : Status) (payload : Payload) :
    (s.respond hold status payload).resetAsserted = s.resetAsserted := by cases hold <;> rfl
@[simp] theorem State.respond_now (s : State) (hold : Bool) (status : Status) (payload : Payload) :
    (s.respond hold status payload).now = s.now := by cases hold <;> rfl
@[simp] theorem State.respond_tbmark (s : State) (hold : Bool) (status : Status) (payload : Payload) :
    (s.respond hold status payload).tbmark = s.tbmark := by cases hold <;> rfl
@[simp] theorem State.respond_intake (s : State) (hold : Bool) (status : Status) (payload : Payload) :
    (s.respond hold status payload).intake = s.intake := by cases hold <;> rfl
@[simp] theorem State.respond_former (s : State) (hold : Bool) (status : Status) (payload : Payload) :
    (s.respond hold status payload).former = s.former := by cases hold <;> rfl
@[simp] theorem State.respond_plin (s : State) (hold : Bool) (status : Status) (payload : Payload) :
    (s.respond hold status payload).plin = s.plin := by cases hold <;> rfl
@[simp] theorem State.respond_monitor (s : State) (hold : Bool) (status : Status) (payload : Payload) :
    (s.respond hold status payload).monitor = s.monitor := by cases hold <;> rfl
@[simp] theorem State.respond_table (s : State) (hold : Bool) (status : Status) (payload : Payload) :
    (s.respond hold status payload).table = s.table := by cases hold <;> rfl
@[simp] theorem State.respond_sweep (s : State) (hold : Bool) (status : Status) (payload : Payload) :
    (s.respond hold status payload).sweep = s.sweep := by cases hold <;> rfl
@[simp] theorem State.respond_run (s : State) (hold : Bool) (status : Status) (payload : Payload) :
    (s.respond hold status payload).run = s.run := by cases hold <;> rfl
@[simp] theorem State.respond_zones (s : State) (hold : Bool) (status : Status) (payload : Payload) :
    (s.respond hold status payload).zones = s.zones := by cases hold <;> rfl
@[simp] theorem State.respond_annunciator (s : State) (hold : Bool) (status : Status) (payload : Payload) :
    (s.respond hold status payload).annunciator = s.annunciator := by cases hold <;> rfl
@[simp] theorem State.respond_latches (s : State) (hold : Bool) (status : Status) (payload : Payload) :
    (s.respond hold status payload).latches = s.latches := by cases hold <;> rfl
@[simp] theorem State.respond_params (s : State) (hold : Bool) (status : Status) (payload : Payload) :
    (s.respond hold status payload).params = s.params := by cases hold <;> rfl
@[simp] theorem State.respond_sensors (s : State) (hold : Bool) (status : Status) (payload : Payload) :
    (s.respond hold status payload).sensors = s.sensors := by cases hold <;> rfl

/-- What a completion leaves in the port (R176, R178). -/
@[simp] theorem State.respond_port (s : State) (hold : Bool) (status : Status) (payload : Payload) :
    (s.respond hold status payload).port =
      { s.port with
        request := none
        response := some { status, lockLost := s.arbiter.lockLost, payload } } := by cases hold <;> rfl

/-- What a completion leaves in the Arbiter (R150, R151). -/
@[simp] theorem State.respond_arbiter (s : State) (hold : Bool) (status : Status) (payload : Payload) :
    (s.respond hold status payload).arbiter =
      { s.arbiter with
        lockLost := false
        locked := hold && s.arbiter.locked
        breaking := hold && s.arbiter.breaking } := by cases hold <;> rfl

end Sys2Proof.Machine
end

