-- ==== Sys2Proof/Laws/Former.lean ====
section
/-! SUPPORT. What the operations of the Event Former can do, said once. -/

namespace Sys2Proof.Machine

/-- The place that `leastIndex` names holds an element that meets the test, with the value named. -/
theorem leastIndex_some {α : Type} {p : α → Bool} {f : α → Nat} {l : List α} {i v : Nat}
    (h : leastIndex p f l = some (i, v)) : ∃ a, l[i]? = some a ∧ p a = true ∧ f a = v := by
  induction l generalizing i v with
  | nil => simp [leastIndex] at h
  | cons a rest ih =>
    unfold leastIndex at h
    split at h
    · split at h
      · simp only [Option.some.injEq, Prod.mk.injEq] at h
        obtain ⟨rfl, rfl⟩ := h
        exact ⟨a, rfl, ‹_›, rfl⟩
      · cases h
    · split at h
      · rename_i hc
        simp only [Option.some.injEq, Prod.mk.injEq] at h
        obtain ⟨rfl, rfl⟩ := h
        simp only [Bool.and_eq_true] at hc
        exact ⟨a, rfl, hc.1, rfl⟩
      · simp only [Option.some.injEq, Prod.mk.injEq] at h
        obtain ⟨rfl, rfl⟩ := h
        obtain ⟨b, hb, hp, hf⟩ := ih ‹_›
        exact ⟨b, by simpa using hb, hp, hf⟩

/-- Of a list with an element, `leastIndex` with the test that holds of all names a place. -/
theorem leastIndex_isSome {α : Type} (f : α → Nat) (a : α) (l : List α) :
    (leastIndex (fun _ => true) f (a :: l)).isSome = true := by
  unfold leastIndex
  split
  · rfl
  · split <;> rfl

/-- A located event offered to the Event Queue is appended or dropped (R35). -/
theorem State.offerEvent_cases (s : State) (ev : LocatedEvent) :
    (s.former.queue.length < 64 ∧
        s.offerEvent ev = s.updFormer fun f => { f with queue := f.queue ++ [ev] }) ∨
      (64 ≤ s.former.queue.length ∧ s.offerEvent ev =
        (s.updFormer fun f => { f with eventDrops := bump f.eventDrops }).latchQueueDrop) := by
  unfold State.offerEvent Config.queueCapacity
  split
  · rename_i h; exact .inl ⟨h, rfl⟩
  · rename_i h; exact .inr ⟨by omega, rfl⟩

/-- The close of the event at a place (R34). -/
theorem State.closeAt_cases (s : State) (i : Nat) (early : Bool) :
    (s.former.openSet[i]? = none ∧ s.closeAt i early = s) ∨
      ∃ e, s.former.openSet[i]? = some e ∧ s.closeAt i early =
        (s.updFormer fun f => { f with openSet := f.openSet.eraseIdx i }).closeEvent
          { e with early := e.early || early } := by
  unfold State.closeAt
  split
  · exact .inl ⟨‹_›, rfl⟩
  · exact .inr ⟨_, ‹_›, rfl⟩

/-- The ways the placement of a hit ends (R25 to R31). -/
theorem State.placeHit_cases (s : State) (d : Descriptor) :
    (s.postRupture d = true ∧
        s.placeHit d = s.updFormer fun f => { f with postRuptures := bump f.postRuptures }) ∨
      (s.postRupture d = false ∧ ∃ i, s.candidateIndex d = some i ∧
        (s.former.openSet[i]? = none ∧ s.placeHit d = s ∨
          ∃ e, s.former.openSet[i]? = some e ∧
            (8 ≤ e.memberCount ∧
                s.placeHit d = s.updFormer (fun f => { f with excesses := bump f.excesses }) ∨
              e.memberCount < 8 ∧ s.placeHit d = s.joinAt i e d))) ∨
      (s.postRupture d = false ∧ s.candidateIndex d = none ∧
        (d.time + s.params.wait ≤ s.now ∧
            s.placeHit d = s.updFormer (fun f => { f with lates := bump f.lates }) ∨
          s.now < d.time + s.params.wait ∧ s.placeHit d = s.openEvent d)) := by
  unfold State.placeHit Config.memberCapacity
  cases hp : s.postRupture d
  · cases hc : s.candidateIndex d with
    | none =>
      refine .inr (.inr ⟨rfl, rfl, ?_⟩)
      by_cases hl : d.time + s.params.wait ≤ s.now
      · exact .inl ⟨hl, by simp [hl]⟩
      · exact .inr ⟨by omega, by simp [hl]⟩
    | some i =>
      refine .inr (.inl ⟨rfl, i, rfl, ?_⟩)
      cases he : s.former.openSet[i]? with
      | none => exact .inl ⟨rfl, by simp [he]⟩
      | some e =>
        refine .inr ⟨e, rfl, ?_⟩
        by_cases hm : 8 ≤ e.memberCount
        · exact .inl ⟨hm, by simp [he, hm]⟩
        · exact .inr ⟨by omega, by simp [he, hm]⟩
  · exact .inl ⟨rfl, by simp⟩

end Sys2Proof.Machine
end

