-- ==== Sys2Proof/Laws/Ops.lean ====
section
/-! SUPPORT. What each operation of Machine/Ops.lean, Machine/Intake.lean and Machine/Pressure.lean that
branches can do, said once. -/

namespace Sys2Proof.Machine

/-- The outcome of a command by the level of RESETn (R1). -/
theorem whileReleased_cases (s t : State) :
    (s.resetAsserted = true ∧ whileReleased s t = .next s) ∨
      (s.resetAsserted = false ∧ whileReleased s t = .next t) := by
  unfold whileReleased
  cases h : s.resetAsserted
  · exact .inr ⟨rfl, rfl⟩
  · exact .inl ⟨rfl, rfl⟩

/-- On a part that is not held in reset a command does its work. -/
theorem whileReleased_released {s : State} (t : State) (h : s.resetAsserted = false) :
    whileReleased s t = .next t := by simp [whileReleased, h]

/-- The three ways a request frame with a request code ends (R176): collision, BAD_REQUEST, content. -/
theorem State.takeRequest_cases (s : State) (code : Nat) (f : Frame) (content : State → State) :
    (s.portBusy = true ∧
        s.takeRequest code f content = (s.clockFiller (3 + f.payload.length)).collide) ∨
      (s.portBusy = false ∧ formOk code f = false ∧
        s.takeRequest code f content =
          (s.clockFiller (3 + f.payload.length)).respond f.hold .badRequest .none) ∨
      (s.portBusy = false ∧ formOk code f = true ∧
        s.takeRequest code f content = content (s.clockFiller (3 + f.payload.length))) := by
  have hb : (s.clockFiller (3 + f.payload.length)).portBusy = s.portBusy := rfl
  unfold State.takeRequest
  cases h : s.portBusy <;> cases g : formOk code f <;> simp [hb, h]

/-- The test of the requested drain: the entry to FROZEN under R160, or nothing. -/
theorem State.testRequestedDrain_cases (s : State) :
    (s.run.state = .freezing ∧ s.run.flavour = some .requested ∧ s.requestedDrained = true ∧
        s.testRequestedDrain = s.enterFrozen) ∨
      s.testRequestedDrain = s := by
  unfold State.testRequestedDrain
  split
  · rename_i h; exact .inl ⟨h.1, h.2.1, h.2.2, rfl⟩
  · exact .inr rfl

/-- The test of the rupture drain: the entry to FROZEN under R164, or nothing. -/
theorem State.testRuptureDrain_cases (s : State) :
    (s.run.state = .freezing ∧ s.run.flavour = some .rupture ∧ s.ruptureDrained = true ∧
        s.testRuptureDrain = s.enterFrozen) ∨
      s.testRuptureDrain = s := by
  unfold State.testRuptureDrain
  split
  · rename_i h; exact .inl ⟨h.1, h.2.1, h.2.2, rfl⟩
  · exact .inr rfl

/-- The lock's expiry (R151): a release that waits for the PORT operation, a forced release, or nothing. -/
theorem State.testLockExpiry_cases (s : State) :
    (s.lockExpired = true ∧ s.testLockExpiry = s.updArbiter fun a => { a with breaking := true }) ∨
      (s.lockExpired = true ∧ s.testLockExpiry = s.forceRelease) ∨
      (s.lockExpired = false ∧ s.testLockExpiry = s) := by
  unfold State.testLockExpiry
  cases h : s.lockExpired
  · exact .inr (.inr ⟨rfl, rfl⟩)
  · have he : (if true = true then s.expireLock else s) = s.expireLock := rfl
    rw [he]
    unfold State.expireLock
    split
    · exact .inl ⟨rfl, rfl⟩
    · exact .inr (.inl ⟨rfl, rfl⟩)

/-- The sample timeout: its expiry (R68), or nothing. -/
theorem State.testSampleTimeout_cases (s : State) :
    (s.sampleStale = true ∧ s.testSampleTimeout = s.expireSample) ∨
      (s.sampleStale = false ∧ s.testSampleTimeout = s) := by
  unfold State.testSampleTimeout
  cases h : s.sampleStale
  · exact .inr ⟨rfl, rfl⟩
  · exact .inl ⟨rfl, rfl⟩

/-- A descriptor offered to the Staging FIFO is appended or dropped (R17). -/
theorem State.offerDescriptor_cases (s : State) (d : Descriptor) :
    (s.intake.fifo.length < 32 ∧ s.offerDescriptor d = s.updIntake fun i =>
        { i with fifo := i.fifo ++ [d], hitsStaged := bump i.hitsStaged }) ∨
      (32 ≤ s.intake.fifo.length ∧ s.offerDescriptor d =
        (s.updIntake fun i => { i with overruns := bump i.overruns }).latchQueueDrop) := by
  unfold State.offerDescriptor Config.fifoCapacity
  split
  · rename_i h; exact .inl ⟨h, rfl⟩
  · rename_i h; exact .inr ⟨by omega, rfl⟩

/-- The Merge serves a lane whose slot is full, and does nothing for an empty slot (R16). -/
theorem State.serveLane_cases (s : State) (l : Lane) :
    ((s.intake.lane l).slot = none ∧ s.serveLane l = s) ∨
      ∃ d, (s.intake.lane l).slot = some d ∧
        s.serveLane l = ((s.updLane l fun r => { r with slot := none }).updIntake fun i =>
          { i with lastServed := l }).offerDescriptor d := by
  unfold State.serveLane
  split
  · exact .inl ⟨‹_›, rfl⟩
  · exact .inr ⟨_, ‹_›, rfl⟩

/-- A completed pressure frame (R67): nothing for an invalid sample; a valid one is taken, after the
rupture latch where the test of R77 holds. -/
theorem State.takeSample_cases (s : State) (pressure : Nat) (b : Byte) :
    (b.getLsbD 0 = false ∧ s.takeSample pressure b = s) ∨
      (b.getLsbD 0 = true ∧ ∃ t, (t = s ∧ s.ruptures pressure = false ∨
          t = s.latchRupture ∧ s.ruptures pressure = true) ∧
        s.takeSample pressure b = t.updMonitor fun m =>
          { m.samplePhase t.params pressure with current := some pressure, stamp := t.now }) := by
  unfold State.takeSample
  cases h : b.getLsbD 0
  · exact .inl ⟨rfl, rfl⟩
  · refine .inr ⟨rfl, ?_⟩
    cases g : s.ruptures pressure
    · exact ⟨s, .inl ⟨rfl, rfl⟩, by simp⟩
    · exact ⟨s.latchRupture, .inr ⟨rfl, rfl⟩, by simp⟩

end Sys2Proof.Machine
end

