-- ==== Sys2Proof/Laws/Table.lean ====
section
/-! SUPPORT. What the operations of the Source Table, the Arbiter and the Fold Engine can do, said once. -/

namespace Sys2Proof.Machine

/-! ### Slots -/

/-- The entries of a slot list after a record is put in a slot. -/
theorem mem_putSlot {slot : Nat} {r : SourceRecord} {l : List (Nat × SourceRecord)} {e : Nat × SourceRecord}
    (h : e ∈ putSlot slot r l) : e = (slot, r) ∨ e ∈ l := by
  induction l with
  | nil => simpa [putSlot] using h
  | cons a rest ih =>
    unfold putSlot at h
    split at h
    · simpa using h
    · split at h
      · simp only [List.mem_cons] at h ⊢
        exact h.imp_right .inr
      · simp only [List.mem_cons] at h ⊢
        rcases h with h | h
        · exact .inr (.inl h)
        · exact (ih h).imp_right .inr

/-- A found record stands in the table, under the key that was sought (R84). -/
theorem SourceTable.find?_some {t : SourceTable} {k : CellKey} {slot : Nat} {r : SourceRecord}
    (h : t.find? k = some (slot, r)) : (slot, r) ∈ t.slots ∧ r.key = k := by
  refine ⟨List.mem_of_find?_eq_some h, ?_⟩
  simpa using List.find?_some h

/-- A key that is not found is live in no slot. -/
theorem SourceTable.find?_none {t : SourceTable} {k : CellKey} (h : t.find? k = none) :
    ∀ e ∈ t.slots, e.2.key ≠ k := by
  intro e he
  have := List.find?_eq_none.mp h e he
  simpa using this

/-- An evicted record is a candidate of the list (R93). -/
theorem chooseVictim_some {l : List (Nat × SourceRecord)} {v : Nat × SourceRecord}
    (h : chooseVictim l = some v) : v ∈ l ∧ v.2.evictable = true := by
  induction l generalizing v with
  | nil => simp [chooseVictim] at h
  | cons e rest ih =>
    unfold chooseVictim at h
    split at h
    · split at h
      · cases h; exact ⟨List.mem_cons_self, ‹_›⟩
      · cases h
    · split at h
      · rename_i hc
        cases h
        simp only [Bool.and_eq_true] at hc
        exact ⟨List.mem_cons_self, hc.1⟩
      · cases h
        have := ih ‹_›
        exact ⟨List.mem_cons_of_mem _ this.1, this.2⟩

/-- Room for a new record (R83, R92): a free slot, an evicted candidate's slot, or none. -/
theorem SourceTable.makeRoom_cases (t : SourceTable) :
    (∃ slot, t.freeSlot = some slot ∧
        t.makeRoom = some { table := t, slot := slot, evicts := false }) ∨
      (∃ v, t.freeSlot = none ∧ chooseVictim t.slots = some v ∧
        t.makeRoom = some { table := t.remove v.1, slot := v.1, evicts := true }) ∨
      (t.freeSlot = none ∧ chooseVictim t.slots = none ∧ t.makeRoom = none) := by
  unfold SourceTable.makeRoom
  cases t.freeSlot with
  | some slot => exact .inl ⟨slot, rfl, rfl⟩
  | none =>
    cases h : chooseVictim t.slots with
    | some v => exact .inr (.inl ⟨v, rfl, rfl, rfl⟩)
    | none => exact .inr (.inr ⟨rfl, rfl, rfl⟩)

/-! ### Records -/

/-- A record put back after an operation: with its report flag set and its zone raised where the grade of
an unmuted record rose, and as it is otherwise (R119). -/
theorem State.settleRecord_cases (s : State) (slot : Nat) (r : SourceRecord) (found : Nat) :
    (found < r.grade ∧ r.muted = false ∧ s.settleRecord slot r found =
        (s.updTable fun t => t.put slot { r with report := true }).raiseZone r.home r.grade) ∨
      ((r.grade ≤ found ∨ r.muted = true) ∧
        s.settleRecord slot r found = s.updTable fun t => t.put slot r) := by
  unfold State.settleRecord SourceRecord.raisedFrom
  by_cases hg : found < r.grade
  · cases hm : r.muted
    · exact .inl ⟨hg, rfl, by simp [hg]⟩
    · exact .inr ⟨.inr rfl, by simp⟩
  · exact .inr ⟨.inl (by omega), by simp [hg]⟩

/-- A fold on the record path (R92, R95, R109): into the live record, into a new one, or unplaced. -/
theorem State.foldRecordPath_cases (s : State) (e : LocatedEvent) :
    (∃ slot r, s.table.find? e.cell = some (slot, r) ∧
        s.foldRecordPath e = s.settleRecord slot (r.foldEvent s.params e) r.grade) ∨
      (∃ room, s.table.find? e.cell = none ∧ s.table.makeRoom = some room ∧
        s.foldRecordPath e = ({ s with table := room.table }.updOperation fun op =>
            { op with evicted := room.evicts }).settleRecord room.slot
          ((SourceRecord.ofFold e.cell e.channel).foldEvent s.params e) 0) ∨
      (s.table.find? e.cell = none ∧ s.table.makeRoom = none ∧ s.foldRecordPath e = s.leaveUnplaced) := by
  unfold State.foldRecordPath
  split
  · exact .inl ⟨_, _, ‹_›, rfl⟩
  · split
    · exact .inr (.inl ⟨_, ‹_›, ‹_›, rfl⟩)
    · exact .inr (.inr ⟨‹_›, ‹_›, rfl⟩)

/-- A visit of a slot (R132, R135, R136): nothing for a free slot, a retirement, or a record put back. -/
theorem State.visitSlot_cases (s : State) (slot : Nat) :
    (s.table.at? slot = none ∧ s.visitSlot slot = s) ∨
      ∃ r, s.table.at? slot = some r ∧
        (((r.visit s.params).retires s.params = true ∧ s.visitSlot slot =
            (s.updTable fun t => t.remove slot).updOperation fun op =>
              { op with autoRetired := op.autoRetired + 1 }) ∨
          ((r.visit s.params).retires s.params = false ∧ s.visitSlot slot =
            (s.settleRecord slot (r.visit s.params) r.grade).buildZone (r.visit s.params))) := by
  unfold State.visitSlot
  split
  · exact .inl ⟨‹_›, rfl⟩
  · refine .inr ⟨_, ‹_›, ?_⟩
    cases h : (SourceRecord.visit s.params _).retires s.params
    · exact .inr ⟨rfl, by simp [h]⟩
    · exact .inl ⟨rfl, by simp [h]⟩

/-! ### Grants -/

/-- What a grant to FOLD rests on (R143, R146). -/
theorem State.grantChoice_fold {s : State} (h : s.grantChoice = some .fold) :
    s.arbiter.operation = none ∧ s.arbiter.locked = false ∧ s.background = some .fold := by
  unfold State.grantChoice at h
  split at h <;> rename_i ho
  · cases h
  · split at h <;> rename_i hl
    · split at h <;> cases h
    · refine ⟨by simpa using ho, by simpa using hl, ?_⟩
      split at h
      · cases h
      · split at h
        · split at h <;> cases h
        · split at h
          · cases h
          · cases h; assumption

/-- What a grant to PORT rests on (R143, R144). -/
theorem State.grantChoice_port {s : State} (h : s.grantChoice = some .port) :
    s.arbiter.operation = none ∧ (s.portRequests = true ∨ s.background = some .port) := by
  unfold State.grantChoice at h
  split at h <;> rename_i ho
  · cases h
  · refine ⟨by simpa using ho, ?_⟩
    split at h
    · split at h
      · exact .inl ‹_›
      · cases h
    · split at h
      · cases h
      · split at h
        · split at h
          · exact .inl ‹_›
          · cases h
        · split at h
          · rename_i hp; simp only [Bool.and_eq_true] at hp; exact .inl hp.1
          · cases h; exact .inr ‹_›

/-- Where no one is chosen, no grant is owed (R144). -/
theorem State.grantOwed_none {s : State} (h : s.grantChoice = none) : s.grantOwed = s := by
  simp [State.grantOwed, h]

/-- Where someone is chosen, the grant that is owed is theirs (R144). -/
theorem State.grantOwed_some {s : State} {r : Requester} (h : s.grantChoice = some r) :
    s.grantOwed = s.grant r := by
  simp [State.grantOwed, h]

/-- No one is chosen while an operation is in progress (R144). -/
theorem State.grantChoice_busy {s : State} (h : s.arbiter.operation.isSome = true) :
    s.grantChoice = none := by
  simp [State.grantChoice, h]

/-- The lock at a grant of a request: acquired where it is free and HOLD is set, kept otherwise (R149). -/
theorem State.acquireLock_cases (s : State) (hold : Bool) :
    (hold = true ∧ s.arbiter.locked = false ∧ s.acquireLock hold =
        s.updArbiter fun a => { a with locked := true, acquired := s.now }) ∨
      ((hold = false ∨ s.arbiter.locked = true) ∧ s.acquireLock hold = s) := by
  unfold State.acquireLock
  cases hold
  · exact .inr ⟨.inl rfl, rfl⟩
  · cases h : s.arbiter.locked
    · exact .inl ⟨rfl, rfl, by simp⟩
    · exact .inr ⟨.inr rfl, by simp⟩

/-- The completion of an operation (R144): nothing in progress, a PORT operation, or a fold or slice. -/
theorem State.completeOperation_cases (s : State) :
    (s.arbiter.operation = none ∧ s.completeOperation = s) ∨
      (∃ op, s.arbiter.operation = some op ∧ op.requester = .port ∧ s.completeOperation =
        (s.updArbiter fun a => { a with operation := none }).completePort) ∨
      (∃ op, s.arbiter.operation = some op ∧ op.requester ≠ .port ∧ s.completeOperation =
        (s.updArbiter fun a => { a with operation := none }).completeBackground op) := by
  unfold State.completeOperation
  split
  · exact .inl ⟨‹_›, rfl⟩
  · rename_i op ho
    by_cases hp : op.requester = .port
    · exact .inr (.inl ⟨op, ho, hp, by simp [hp]⟩)
    · exact .inr (.inr ⟨op, ho, hp, by simp [hp]⟩)

end Sys2Proof.Machine
end

