-- ==== Sys2Proof/Laws/Port.lean ====
section
/-! SUPPORT. How a link character is received; how a request frame is taken, answered, and served by the table; the
parameter codes; and the tests of both drains together. -/

namespace Sys2Proof.Machine

/-! ### Link characters -/

/-- The count of ones is the sum of the bits. -/
theorem characterOnes_eq (ch : Character) :
    characterOnes ch = ((List.range 10).map fun i => (ch.getLsbD (i + 1)).toNat).sum := by
  unfold characterOnes
  generalize List.range 10 = l
  induction l with
  | nil => rfl
  | cons i l ih =>
    rw [List.filter_cons, List.map_cons, List.sum_cons, ← ih]
    cases ch.getLsbD (i + 1) <;> simp [Nat.add_comm]

/-- The data byte of a character (R191). -/
theorem characterData_eq {ch : Character} {b : Byte} (h : ∀ i, i < 8 → ch.getLsbD (i + 1) = b.getLsbD i) :
    characterData ch = b := by
  apply BitVec.eq_of_getLsbD_eq
  intro i hi
  rw [← h i hi]
  simp [characterData, hi, Nat.add_comm]

/-- A character as a sender sends it is received as a header or a data character, by its marker (R4). -/
theorem Carries.receive {marker : Bool} {b : Byte} {ch : Character} (h : Carries marker b ch) :
    Machine.receive ch = if marker then .header b else .data b := by
  simp only [Machine.receive, characterGood, characterOnes_eq, characterMarker, h.start, h.parity, h.stop,
    h.marked, characterData_eq h.bits]
  rfl

/-- A character with a wrong parity or stop bit is received as an error (R4). -/
theorem Faulty.receive {ch : Character} (h : Faulty ch) : Machine.receive ch = .error := by
  obtain ⟨h1, h2⟩ := h
  rw [← characterOnes_eq] at h2
  rcases h2 with h | h <;> simp only [Machine.receive, characterGood, h1, h] <;> simp

/-- 12 bits without a start bit of 0 deliver nothing (R4). -/
theorem receive_idle {ch : Character} (h : ch.getLsbD 0 = true) : receive ch = .idle := by
  simp only [receive, h, if_true]

/-! ### Frames -/

theorem State.steady_iff {s : State} :
    s.steady = true ↔ s.resetAsserted = false ∧ s.grantChoice = none := by
  simp [State.steady]

/-- A command taken while no grant is owed does its work at once. -/
theorem afterGrant_steady {s : State} (f : State → State) (h : s.steady = true) :
    afterGrant s f = .next (f s) := by
  obtain ⟨h1, h2⟩ := State.steady_iff.mp h
  rw [afterGrant, State.grantOwed_none h2, whileReleased_released _ h1]

/-- So does one taken while an operation is in progress (R144). -/
theorem afterGrant_busy {s : State} (f : State → State) (h : s.resetAsserted = false)
    (g : s.arbiter.operation.isSome = true) : afterGrant s f = .next (f s) :=
  afterGrant_steady f (State.steady_iff.mpr ⟨h, State.grantChoice_busy g⟩)

theorem State.portReady_iff {s : State} :
    s.portReady = true ↔ s.steady = true ∧ s.port.request = none ∧ s.port.response = none := by
  simp [State.portReady, and_assoc]

/-- A ready port takes a frame of the right form and looks at its content (R176). -/
theorem takeRequest_content {s : State} {code : Nat} {f : Frame} {content : State → State}
    (h : s.portReady = true) (hf : formOk code f = true) :
    (afterGrant s fun s => s.takeRequest code f content) =
      .next (content (s.clockFiller (3 + f.payload.length))) := by
  obtain ⟨h1, h2, h3⟩ := State.portReady_iff.mp h
  rw [afterGrant_steady _ h1]
  rcases State.takeRequest_cases s code f content with ⟨a, -⟩ | ⟨-, b, -⟩ | ⟨-, -, c⟩
  · simp [State.portBusy, h2, h3] at a
  · simp [hf] at b
  · rw [c]

/-- An answer without the table is the state `answered` (R150, R176). -/
theorem State.respond_clockFiller (s : State) (f : Frame) (status : Status) (payload : Payload) :
    (s.clockFiller (3 + f.payload.length)).respond f.hold status payload =
      s.answered f status payload := by
  unfold State.respond
  cases hf : f.hold <;>
    simp [State.clockFiller, State.updPort, State.answered, State.releaseLock, State.updArbiter, hf]

/-- A ready port turns a frame of the wrong form away (R176). -/
theorem takeRequest_form {s : State} {code : Nat} {f : Frame} {content : State → State}
    (h : s.portReady = true) (hf : formOk code f = false) :
    (afterGrant s fun s => s.takeRequest code f content) = .next (s.answered f .badRequest .none) := by
  obtain ⟨h1, h2, h3⟩ := State.portReady_iff.mp h
  rw [afterGrant_steady _ h1]
  rcases State.takeRequest_cases s code f content with ⟨a, -⟩ | ⟨-, -, c⟩ | ⟨-, b, -⟩
  · simp [State.portBusy, h2, h3] at a
  · rw [c, State.respond_clockFiller]
  · simp [hf] at b

/-- The frame of a parameter write has the right form. -/
theorem formOk_configFrame (flags : Byte) (p : Param) (value : BitVec 16) :
    formOk 0x04 (configFrame flags p value) = true := by
  simp [formOk, configFrame, natToBytes, requestLength]

/-! ### Parameter codes (Table 12-7) -/

theorem paramOfCode_paramCode (q : Param) : paramOfCode (paramCode q) = some q := by
  cases q with
  | geometry g =>
    cases g with
    | ringPos r =>
      revert r
      decide
    | colPos k =>
      revert k
      decide
    | _ => rfl
  | _ => rfl

theorem paramCode_of_paramOfCode {n : Nat} {q : Param} (h : paramOfCode n = some q) : paramCode q = n := by
  unfold paramOfCode at h
  split at h <;> first
    | (cases h; rfl)
    | skip
  split at h
  · cases h
    simp [paramCode, geometryCode, Fin.ofNat]
    omega
  · split at h
    · cases h
      simp [paramCode, geometryCode, Fin.ofNat]
      omega
    · cases h

theorem paramOfCode_eq_none {n : Nat} (h : ∀ q, n ≠ paramCode q) : paramOfCode n = none := by
  cases hp : paramOfCode n with
  | none => rfl
  | some q => exact absurd (paramCode_of_paramOfCode hp).symm (h q)

theorem paramCode_lt (q : Param) : paramCode q < 256 := by
  cases q with
  | geometry g =>
    cases g with
    | ringPos r =>
      revert r
      decide
    | colPos k =>
      revert k
      decide
    | _ => decide
  | _ => decide

/-! ### Cell references -/

theorem State.awaitCell_some {s : State} {f : Frame} {work : CellKey → TableWork} {k : CellKey}
    (hk : s.resolveRef f = some k) (n : Nat) :
    (s.clockFiller n).awaitCell f work = (s.clockFiller n).await f.hold (work k) := by
  unfold State.awaitCell
  have : (s.clockFiller n).resolveRef f = some k := hk
  rw [this]

theorem State.awaitCell_none {s : State} {f : Frame} {work : CellKey → TableWork}
    (hk : s.resolveRef f = none) :
    (s.clockFiller (3 + f.payload.length)).awaitCell f work = s.answered f .outOfGrid .none := by
  unfold State.awaitCell
  have : (s.clockFiller (3 + f.payload.length)).resolveRef f = none := hk
  rw [this]
  exact State.respond_clockFiller s f _ _

/-! ### Table work -/

/-- No table work changes the Arbiter, the port, or anything but the table, the zones, the parameters, the
sensor map and the channel faults. -/
theorem State.performWork_frame (s : State) (work : TableWork) :
    (s.performWork work).state.arbiter = s.arbiter ∧ (s.performWork work).state.port = s.port ∧
      ({ (s.performWork work).state with
          table := s.table, zones := s.zones, params := s.params, sensors := s.sensors
          intake := { (s.performWork work).state.intake with faults := s.intake.faults } } : State) =
        s := by
  cases work <;> simp only [State.performWork]
  case lookup k => unfold State.workLookup State.onRecord; split <;> exact ⟨rfl, rfl, rfl⟩
  case scan => exact ⟨rfl, rfl, rfl⟩
  case changes => exact ⟨rfl, rfl, rfl⟩
  case seed =>
    unfold State.workSeed
    split
    · exact ⟨rfl, rfl, rfl⟩
    · split <;> exact ⟨rfl, rfl, rfl⟩
  case mark =>
    unfold State.workMark State.onRecord
    split
    · simp only
      split <;> exact ⟨rfl, rfl, rfl⟩
    · exact ⟨rfl, rfl, rfl⟩
  case clearStats => unfold State.workClearStats State.onRecord; split <;> exact ⟨rfl, rfl, rfl⟩
  case retire => unfold State.workRetire State.onRecord; split <;> exact ⟨rfl, rfl, rfl⟩
  case geometry => exact ⟨rfl, rfl, rfl⟩
  case sensor => exact ⟨rfl, rfl, rfl⟩

/-- PORT is chosen where it requests, no operation is in progress, and the lock is held or no one else
requests (R143, R146). -/
theorem State.grantChoice_eq_port {s : State} (h1 : s.arbiter.operation = none)
    (h2 : s.portRequests = true)
    (h3 : s.arbiter.locked = true ∨ (s.foldRequests = false ∧ s.sweepRequests = false)) :
    s.grantChoice = some .port := by
  unfold State.grantChoice
  rcases h3 with h | ⟨h, g⟩
  · simp [h1, h2, h]
  · simp [h1, h2, h, g, State.background]

/-- A request that waits is granted, worked and answered where PORT is chosen: the state `granted`, with what its
table work makes of the table, the zones, the parameters, the sensor map and the intake. -/
theorem granted_of_work {w : State} {hold : Bool} {work : TableWork} {status : Status} {payload : Payload}
    (table : SourceTable) (zones : Vector Zone 64) (params : Params) (sensors : Vector Sensor 64)
    (intake : Intake) (hr : w.resetAsserted = false) (hb : w.arbiter.breaking = false)
    (hq : w.port.request = some { hold := hold, stage := .waiting work }) (hg : w.grantChoice = some .port)
    (hw : ∀ (p : Port) (a : Arbiter), ({ w with port := p, arbiter := a } : State).performWork work =
      { state :=
          { w with
            port := p, arbiter := a, table := table, zones := zones, params := params
            sensors := sensors, intake := intake }
        status := status, payload := payload }) :
    ∃ g, exec .portGrant w = .next g ∧ exec .operationCompletion g = .next
      (({ w with
          table := table, zones := zones, params := params, sensors := sensors
          intake := intake } : State).granted hold status payload) := by
  have e : exec .portGrant w = .next (w.grantPort hold work) := by
    simp only [exec, execPortGrant, if_pos hg]
    rw [whileReleased_released _ hr, State.grantRequest, State.portWork, hq]
  refine ⟨_, e, ?_⟩
  have ho : w.arbiter.operation = none := by
    cases h : w.arbiter.operation with
    | none => rfl
    | some op => simp [State.grantChoice, h] at hg
  unfold State.grantPort
  have ha : (w.beginGrant .port false false).acquireLock hold =
      { w with
        arbiter := { w.arbiter with
          operation := some
            { requester := .port, liveBefore := w.table.liveCount
              reportBefore := w.table.reportCount, tookEntry := false, endsPass := false
              unplaced := false, evicted := false, autoRetired := 0 }
          recency := .port :: w.arbiter.recency.filter (· != .port)
          starvation := 0
          locked := w.arbiter.locked || hold
          acquired := if hold && !w.arbiter.locked then w.now else w.arbiter.acquired } } := by
    rcases State.acquireLock_cases (w.beginGrant .port false false) hold with ⟨a, b, c⟩ | ⟨a, b⟩
    · have b' : w.arbiter.locked = false := b
      rw [c]
      simp [State.beginGrant, State.updArbiter, a, b', moveToFront]
    · rw [b]
      have a' : hold = false ∨ w.arbiter.locked = true := a
      rcases a' with a | a <;> simp [State.beginGrant, State.updArbiter, a, moveToFront]
  rw [ha, hw]
  simp only [exec, execOperationCompletion]
  rw [afterGrant_busy _ (by exact hr) rfl]
  congr 1
  unfold State.completeOperation State.completePort
  simp only [State.updPort, State.updArbiter, hb]
  unfold State.respond State.granted
  cases hold <;> cases hl : w.arbiter.locked <;> simp [State.releaseLock, State.updArbiter, ho]

/-- At an idle table a request that waits is chosen at once (R144, R146). -/
theorem State.asked_grantChoice {s : State} {f : Frame} {work : TableWork} (hi : s.tableIdle = true) :
    (s.asked f work).grantChoice = some .port := by
  obtain ⟨i1, -, i3⟩ : s.arbiter.operation = none ∧ s.arbiter.breaking = false ∧
      (s.arbiter.locked = true ∨ (s.foldRequests = false ∧ s.sweepRequests = false)) := by
    simpa [State.tableIdle, and_assoc] using hi
  exact State.grantChoice_eq_port i1 rfl i3

/-- A request that waits for its grant at an idle table is granted, worked and answered: the state `served`,
with what its table work makes of the table, the zones, the parameters, the sensor map and the intake. -/
theorem serves_of_work {i : Instr} {s : State} {f : Frame} {work : TableWork} {status : Status}
    {payload : Payload} (table : SourceTable) (zones : Vector Zone 64) (params : Params)
    (sensors : Vector Sensor 64) (intake : Intake) (hr : s.portReady = true) (hi : s.tableIdle = true)
    (he : exec i s = .next (s.asked f work))
    (hw : ∀ (p : Port) (a : Arbiter), ({ s with port := p, arbiter := a } : State).performWork work =
      { state :=
          { s with
            port := p, arbiter := a, table := table, zones := zones, params := params
            sensors := sensors, intake := intake }
        status := status, payload := payload }) :
    Serves i s
      (({ s with
          table := table, zones := zones, params := params, sensors := sensors
          intake := intake } : State).served f status payload) := by
  obtain ⟨r1, -⟩ := State.portReady_iff.mp hr
  have hb : s.arbiter.breaking = false := by
    simp only [State.tableIdle, Bool.and_eq_true, Bool.not_eq_true'] at hi
    exact hi.1.2
  obtain ⟨g, e1, e2⟩ := granted_of_work (w := s.asked f work) table zones params sensors intake
    (State.steady_iff.mp r1).1 hb rfl (State.asked_grantChoice hi) hw
  exact ⟨_, g, he, e1, e2⟩

/-! ### The drains (R160, R164) -/

/-- A drain of either flavour is complete, but for a fold or slice in progress. -/
def State.Drained (s : State) : Prop :=
  s.run.state = .freezing ∧ s.sweep.backlog = 0 ∧ s.sweep.pass = false ∧
    ((s.run.flavour = some .requested ∧ ∀ e ∈ s.former.queue, e.held = true) ∨
      (s.run.flavour = some .rupture ∧ s.former.queue = [] ∧ s.former.openSet = []))

/-- With no fold or slice in progress, both tests together enter FROZEN where a drain is complete. -/
theorem State.testDrains_drained {s : State} (h : s.backgroundBusy = false) (hd : s.Drained) :
    s.testRequestedDrain.testRuptureDrain = s.enterFrozen := by
  obtain ⟨h1, h2, h3, ⟨h4, h5⟩ | ⟨h4, h5, h6⟩⟩ := hd
  · have : s.testRequestedDrain = s.enterFrozen := by
      unfold State.testRequestedDrain
      rw [if_pos]
      refine ⟨h1, h4, ?_⟩
      simp [State.requestedDrained, h2, h3, h]
      exact h5
    rw [this]
    unfold State.testRuptureDrain
    rw [if_neg]
    rintro ⟨a, -⟩
    cases a
  · have : s.testRequestedDrain = s := by
      unfold State.testRequestedDrain
      rw [if_neg]
      rintro ⟨-, a, -⟩
      rw [h4] at a
      cases a
    rw [this]
    unfold State.testRuptureDrain
    rw [if_pos]
    refine ⟨h1, h4, ?_⟩
    simp [State.ruptureDrained, h2, h3, h, h5, h6]

/-- Where no drain is complete, both tests together change nothing. -/
theorem State.testDrains_not {s : State} (h : s.backgroundBusy = false) (hd : ¬s.Drained) :
    s.testRequestedDrain.testRuptureDrain = s := by
  rcases State.testRequestedDrain_cases s with ⟨a, b, c, -⟩ | d
  · simp [State.requestedDrained, h] at c
    exact absurd ⟨a, c.1.2, c.2, .inl ⟨b, c.1.1⟩⟩ hd
  · rw [d]
    rcases State.testRuptureDrain_cases s with ⟨a, b, c, -⟩ | d
    · simp [State.ruptureDrained, h] at c
      exact absurd ⟨a, c.1.2, c.2, .inr ⟨b, c.1.1.1, c.1.1.2⟩⟩ hd
    · exact d

end Sys2Proof.Machine
end

