-- ==== Sys2Proof/Laws/Grants.lean ====
section
/-! SUPPORT. What every grant of the Table Arbiter does (R144): its operation is in progress, and RESETn stands as
it stood. -/

namespace Sys2Proof.Machine

/-- The operation of a requester is in progress, and RESETn stands at a level. -/
def State.WorksFor (s : State) (r : Requester) (level : Bool) : Prop :=
  s.resetAsserted = level ∧ ∃ op, s.arbiter.operation = some op ∧ op.requester = r

theorem State.worksFor_beginGrant (s : State) (r : Requester) (a b : Bool) :
    (s.beginGrant r a b).WorksFor r s.resetAsserted := ⟨rfl, _, rfl, rfl⟩

/-- An operation that is marked stays the operation of its requester. -/
theorem State.WorksFor.updOperation {s : State} {r : Requester} {level : Bool} (h : s.WorksFor r level)
    {f : Operation → Operation} (hf : ∀ op, (f op).requester = op.requester) :
    (s.updOperation f).WorksFor r level := by
  obtain ⟨h1, op, h2, h3⟩ := h
  exact ⟨h1, f op, by simp [State.updOperation, State.updArbiter, h2], by rw [hf, h3]⟩

theorem State.WorksFor.settleRecord {s : State} {r : Requester} {level : Bool} (h : s.WorksFor r level)
    (slot : Nat) (q : SourceRecord) (found : Nat) : (s.settleRecord slot q found).WorksFor r level := by
  rcases State.settleRecord_cases s slot q found with ⟨-, -, e⟩ | ⟨-, e⟩ <;> rw [e] <;> exact h

/-- A fold keeps its operation in progress. -/
theorem State.WorksFor.foldEvent {s : State} {r : Requester} {level : Bool} (h : s.WorksFor r level)
    (e : LocatedEvent) : (s.foldEvent e).WorksFor r level := by
  unfold State.foldEvent
  split
  · exact h
  · rcases State.foldRecordPath_cases s e with ⟨slot, q, -, e1⟩ | ⟨room, -, -, e1⟩ | ⟨-, -, e1⟩ <;> rw [e1]
    · exact h.settleRecord _ _ _
    · have h' : ({ s with table := room.table } : State).WorksFor r level := h
      exact (h'.updOperation (by intro op; rfl)).settleRecord _ _ _
    · exact h.updOperation (by intro op; rfl)

/-- A slice keeps its operation in progress. -/
theorem State.WorksFor.visitSlots {r : Requester} {level : Bool} (n : Nat) :
    ∀ (s : State) (slot : Nat), s.WorksFor r level → (s.visitSlots slot n).WorksFor r level := by
  induction n with
  | zero => exact fun _ _ h => h
  | succ n ih =>
    intro s slot h
    refine ih _ _ ?_
    rcases State.visitSlot_cases s slot with ⟨-, e⟩ | ⟨q, -, ⟨-, e⟩ | ⟨-, e⟩⟩ <;> rw [e]
    · exact h
    · have h' : (s.updTable fun t => t.remove slot).WorksFor r level := h
      exact h'.updOperation (by intro op; rfl)
    · have h' := h.settleRecord slot (q.visit s.params) q.grade
      unfold State.buildZone
      split <;> exact h'

/-- No background candidate is PORT (R146). -/
theorem State.background_ne_port (s : State) : s.background ≠ some .port := by
  unfold State.background
  simp only
  repeat' split
  all_goals simp

/-- FOLD is a background candidate only where it requests (R146). -/
theorem State.foldRequests_of_background {s : State} (h : s.background = some .fold) :
    s.foldRequests = true := by
  cases hf : s.foldRequests
  · unfold State.background at h
    simp only [hf] at h
    repeat' split at h
    all_goals simp_all
  · rfl

/-- Where FOLD requests, the queue holds the entry that its fold removes (R37). -/
theorem State.foldIndex_of_requests {s : State} (h : s.foldRequests = true) :
    ∃ i e, s.foldIndex = some i ∧ s.former.queue[i]? = some e := by
  unfold State.foldRequests at h
  unfold State.foldIndex
  cases hs : s.run.state <;> rw [hs] at h
  case listening =>
    cases hq : s.former.queue with
    | nil => simp [hq] at h
    | cons e rest => exact ⟨0, e, by simp, by simp⟩
  case freezing =>
    cases hi : s.former.queue.findIdx? fun e => !e.held with
    | none =>
      rw [List.findIdx?_eq_none_iff] at hi
      obtain ⟨e, he, h⟩ := List.any_eq_true.mp h
      rw [hi e he] at h
      cases h
    | some i =>
      obtain ⟨hl, -⟩ := List.findIdx?_eq_some_iff_getElem.mp hi
      exact ⟨i, _, rfl, List.getElem?_eq_getElem hl⟩
  all_goals cases h

/-- A grant begins the operation of the requester that is chosen (R144). -/
theorem State.grant_begins {s : State} {r : Requester} (h : s.grantChoice = some r) :
    (s.grant r).WorksFor r s.resetAsserted := by
  cases r with
  | fold =>
    obtain ⟨i, e, h1, h2⟩ := State.foldIndex_of_requests
      (State.foldRequests_of_background (State.grantChoice_fold h).2.2)
    unfold State.grant State.grantFold
    simp only [h1, h2]
    refine State.WorksFor.foldEvent ?_ e
    exact State.worksFor_beginGrant s .fold true false
  | sweep =>
    have h0 := State.worksFor_beginGrant s .sweep false s.sweep.slicesToEnd
    unfold State.grant State.grantSweep State.slice
    generalize s.beginGrant .sweep false s.sweep.slicesToEnd = t at h0 ⊢
    have h1 := State.WorksFor.visitSlots Config.sliceSlots (t.updSweep Sweep.beginPass)
      (t.updSweep Sweep.beginPass).sweep.cursor h0
    simp only
    generalize (t.updSweep Sweep.beginPass).visitSlots _ _ = u at h1 ⊢
    split <;> exact h1
  | port =>
    obtain ⟨-, hp | hp⟩ := State.grantChoice_port h
    · unfold State.grant State.grantRequest
      unfold State.portRequests at hp
      obtain ⟨⟨hold, work⟩, hw⟩ := Option.isSome_iff_exists.mp hp
      simp only [hw]
      have h0 : ((s.beginGrant .port false false).acquireLock hold).WorksFor .port s.resetAsserted := by
        rcases State.acquireLock_cases (s.beginGrant .port false false) hold with ⟨-, -, e⟩ | ⟨-, e⟩ <;>
          rw [e] <;> exact State.worksFor_beginGrant s .port false false
      unfold State.grantPort
      generalize (s.beginGrant .port false false).acquireLock hold = t at h0 ⊢
      obtain ⟨e1, -, e2⟩ := State.performWork_frame t work
      have e3 : (t.performWork work).state.resetAsserted = t.resetAsserted := by
        have := congrArg State.resetAsserted e2
        exact this
      obtain ⟨h1, op, h2, h3⟩ := h0
      exact ⟨e3.trans h1, op, (congrArg Arbiter.operation e1).trans h2, h3⟩
    · exact absurd hp s.background_ne_port

end Sys2Proof.Machine
end

