-- ==== Sys2Proof/Laws/Locator.lean ====
section
/-! SUPPORT. What the Locator's choice of a partner and its offset give, said once. -/

namespace Sys2Proof.Machine

/-- No member, no earliest one. -/
theorem earliest_eq_none {l : List Descriptor} (h : earliest l = none) : l = [] := by
  cases l with
  | nil => rfl
  | cons d l =>
    unfold earliest at h
    split at h
    · cases h
    · split at h <;> cases h

/-- The earliest of a list is one of it, and none is earlier. -/
theorem earliest_some {l : List Descriptor} {d : Descriptor} (h : earliest l = some d) :
    d ∈ l ∧ ∀ m ∈ l, d.time ≤ m.time := by
  induction l generalizing d with
  | nil => cases h
  | cons a l ih =>
    unfold earliest at h
    cases he : earliest l with
    | none =>
      rw [he] at h
      cases h
      simp [earliest_eq_none he]
    | some e =>
      rw [he] at h
      obtain ⟨h1, h2⟩ := ih he
      simp only at h
      split at h <;> cases h
      · refine ⟨List.mem_cons_self, fun m hm => ?_⟩
        rcases List.mem_cons.1 hm with rfl | hm
        · exact Nat.le_refl _
        · have := h2 m hm
          omega
      · refine ⟨List.mem_cons_of_mem _ h1, fun m hm => ?_⟩
        rcases List.mem_cons.1 hm with rfl | hm
        · omega
        · exact h2 m hm

/-- The earliest of the members with a property is the partner by it (R55). -/
theorem earliest_isPartner (rest : List Descriptor) (q : Descriptor → Bool) {Q : Descriptor → Prop}
    (hq : ∀ d, q d = true ↔ Q d) : IsPartner rest Q (earliest (rest.filter q)) := by
  induction rest with
  | nil => simp [earliest, IsPartner]
  | cons a l ih =>
    rw [List.filter_cons]
    by_cases ha : q a = true
    · rw [if_pos ha]
      unfold earliest
      cases he : earliest (l.filter q) with
      | none =>
        refine ⟨[], l, rfl, (hq a).1 ha, fun _ h => absurd h List.not_mem_nil, fun m hm h => ?_⟩
        have := List.filter_eq_nil_iff.1 (earliest_eq_none he) m hm
        exact absurd ((hq m).2 h) this
      | some e =>
        rw [he] at ih
        simp only
        split
        · rename_i hle
          refine ⟨[], l, rfl, (hq a).1 ha, fun _ h => absurd h List.not_mem_nil, fun m hm h => ?_⟩
          have := (earliest_some he).2 m (List.mem_filter.2 ⟨hm, (hq m).2 h⟩)
          omega
        · rename_i hle
          obtain ⟨before, after, h1, h2, h3, h4⟩ := ih
          refine ⟨a :: before, after, by rw [h1]; rfl, h2, fun m hm h => ?_, h4⟩
          rcases List.mem_cons.1 hm with rfl | hm
          · omega
          · exact h3 m hm h
    · rw [if_neg ha]
      have hn : ¬Q a := fun h => ha ((hq a).2 h)
      cases he : earliest (l.filter q) with
      | none =>
        rw [he] at ih
        intro m hm
        rcases List.mem_cons.1 hm with rfl | hm
        · exact hn
        · exact ih m hm
      | some e =>
        rw [he] at ih
        obtain ⟨before, after, h1, h2, h3, h4⟩ := ih
        refine ⟨a :: before, after, by rw [h1]; rfl, h2, fun m hm h => ?_, h4⟩
        rcases List.mem_cons.1 hm with rfl | hm
        · exact absurd h hn
        · exact h3 m hm h

/-- An offset is at most half its span (R58). -/
theorem offset_le (vel span dt : Nat) : offset vel span dt ≤ span / 2 := by
  unfold offset
  simp only
  split <;> omega

end Sys2Proof.Machine
end

