-- ==== Sys2Proof/Laws/PerInstr.lean ====
section
/-! SUPPORT. A fact of each command as syntax, one lemma for each row. -/

namespace Sys2Proof

/-- The bytes of a well-formed command that is an SPI frame hold at least one byte, so its frame is never
ignored (R176). -/
def Laws.FrameBytes.Statement (i : Instr) : Prop :=
  i.WellFormed = true → ∀ bytes, encodeFrame i = some bytes → 0 < bytes.length

theorem Laws.FrameBytes.reset : Laws.FrameBytes.Statement .reset :=
  fun _ _ e => nomatch e

theorem Laws.FrameBytes.resetnRelease : Laws.FrameBytes.Statement .resetnRelease :=
  fun _ _ e => nomatch e

theorem Laws.FrameBytes.lowTicksWrap : Laws.FrameBytes.Statement .lowTicksWrap :=
  fun _ _ e => nomatch e

theorem Laws.FrameBytes.hitLaneHeader (lane : Lane) (ch : Character) :
    Laws.FrameBytes.Statement (.hitLaneHeader lane ch) :=
  fun _ _ e => nomatch e

theorem Laws.FrameBytes.hitLaneDataCharacter (lane : Lane) (ch : Character) :
    Laws.FrameBytes.Statement (.hitLaneDataCharacter lane ch) :=
  fun _ _ e => nomatch e

theorem Laws.FrameBytes.hitLaneCharacterError (lane : Lane) (ch : Character) :
    Laws.FrameBytes.Statement (.hitLaneCharacterError lane ch) :=
  fun _ _ e => nomatch e

theorem Laws.FrameBytes.mergeServe : Laws.FrameBytes.Statement .mergeServe :=
  fun _ _ e => nomatch e

theorem Laws.FrameBytes.restartCountExpiry : Laws.FrameBytes.Statement .restartCountExpiry :=
  fun _ _ e => nomatch e

theorem Laws.FrameBytes.settleCountExpiry : Laws.FrameBytes.Statement .settleCountExpiry :=
  fun _ _ e => nomatch e

theorem Laws.FrameBytes.hitPlacement : Laws.FrameBytes.Statement .hitPlacement :=
  fun _ _ e => nomatch e

theorem Laws.FrameBytes.eventExpiry : Laws.FrameBytes.Statement .eventExpiry :=
  fun _ _ e => nomatch e

theorem Laws.FrameBytes.plinHeader (ch : Character) : Laws.FrameBytes.Statement (.plinHeader ch) :=
  fun _ _ e => nomatch e

theorem Laws.FrameBytes.plinDataCharacter (ch : Character) :
    Laws.FrameBytes.Statement (.plinDataCharacter ch) :=
  fun _ _ e => nomatch e

theorem Laws.FrameBytes.plinCharacterError (ch : Character) :
    Laws.FrameBytes.Statement (.plinCharacterError ch) :=
  fun _ _ e => nomatch e

theorem Laws.FrameBytes.sampleTimeoutExpiry : Laws.FrameBytes.Statement .sampleTimeoutExpiry :=
  fun _ _ e => nomatch e

theorem Laws.FrameBytes.sweepTimerExpiry : Laws.FrameBytes.Statement .sweepTimerExpiry :=
  fun _ _ e => nomatch e

theorem Laws.FrameBytes.fold : Laws.FrameBytes.Statement .fold :=
  fun _ _ e => nomatch e

theorem Laws.FrameBytes.sweepSlice : Laws.FrameBytes.Statement .sweepSlice :=
  fun _ _ e => nomatch e

theorem Laws.FrameBytes.portGrant : Laws.FrameBytes.Statement .portGrant :=
  fun _ _ e => nomatch e

theorem Laws.FrameBytes.operationCompletion : Laws.FrameBytes.Statement .operationCompletion :=
  fun _ _ e => nomatch e

theorem Laws.FrameBytes.requestedDrainEnd : Laws.FrameBytes.Statement .requestedDrainEnd :=
  fun _ _ e => nomatch e

theorem Laws.FrameBytes.ruptureDrainEnd : Laws.FrameBytes.Statement .ruptureDrainEnd :=
  fun _ _ e => nomatch e

theorem Laws.FrameBytes.lockExpiry : Laws.FrameBytes.Statement .lockExpiry :=
  fun _ _ e => nomatch e

theorem Laws.FrameBytes.annunciatorFrameStart : Laws.FrameBytes.Statement .annunciatorFrameStart :=
  fun _ _ e => nomatch e

theorem Laws.FrameBytes.responseRead (r : ReadFrame) : Laws.FrameBytes.Statement (.responseRead r) :=
  fun _ _ e => by
    simp only [encodeFrame] at e
    split at e <;> cases e
    exact Nat.succ_pos _

theorem Laws.FrameBytes.status (f : Frame) : Laws.FrameBytes.Statement (.status f) :=
  fun _ _ e => by cases e; exact Nat.succ_pos _

theorem Laws.FrameBytes.counters (f : Frame) : Laws.FrameBytes.Statement (.counters f) :=
  fun _ _ e => by cases e; exact Nat.succ_pos _

theorem Laws.FrameBytes.configRead (f : Frame) : Laws.FrameBytes.Statement (.configRead f) :=
  fun _ _ e => by cases e; exact Nat.succ_pos _

theorem Laws.FrameBytes.configWrite (f : Frame) : Laws.FrameBytes.Statement (.configWrite f) :=
  fun _ _ e => by cases e; exact Nat.succ_pos _

theorem Laws.FrameBytes.geometryWrite (flags : Byte) (g : GeometryParam) (value : BitVec 16) :
    Laws.FrameBytes.Statement (.geometryWrite flags g value) :=
  fun _ _ e => by cases e; exact Nat.succ_pos _

theorem Laws.FrameBytes.sampleTimeoutWrite (flags : Byte) (value : BitVec 16) :
    Laws.FrameBytes.Statement (.sampleTimeoutWrite flags value) :=
  fun _ _ e => by cases e; exact Nat.succ_pos _

theorem Laws.FrameBytes.lockLimitWrite (flags : Byte) (value : BitVec 16) :
    Laws.FrameBytes.Statement (.lockLimitWrite flags value) :=
  fun _ _ e => by cases e; exact Nat.succ_pos _

theorem Laws.FrameBytes.annEnableWrite (flags : Byte) (value : BitVec 16) :
    Laws.FrameBytes.Statement (.annEnableWrite flags value) :=
  fun _ _ e => by cases e; exact Nat.succ_pos _

theorem Laws.FrameBytes.sensorRead (f : Frame) : Laws.FrameBytes.Statement (.sensorRead f) :=
  fun _ _ e => by cases e; exact Nat.succ_pos _

theorem Laws.FrameBytes.sensorWrite (f : Frame) : Laws.FrameBytes.Statement (.sensorWrite f) :=
  fun _ _ e => by cases e; exact Nat.succ_pos _

theorem Laws.FrameBytes.start (f : Frame) : Laws.FrameBytes.Statement (.start f) :=
  fun _ _ e => by cases e; exact Nat.succ_pos _

theorem Laws.FrameBytes.stop (f : Frame) : Laws.FrameBytes.Statement (.stop f) :=
  fun _ _ e => by cases e; exact Nat.succ_pos _

theorem Laws.FrameBytes.freeze (f : Frame) : Laws.FrameBytes.Statement (.freeze f) :=
  fun _ _ e => by cases e; exact Nat.succ_pos _

theorem Laws.FrameBytes.thaw (f : Frame) : Laws.FrameBytes.Statement (.thaw f) :=
  fun _ _ e => by cases e; exact Nat.succ_pos _

theorem Laws.FrameBytes.engineReset (f : Frame) : Laws.FrameBytes.Statement (.engineReset f) :=
  fun _ _ e => by cases e; exact Nat.succ_pos _

theorem Laws.FrameBytes.restartChannels (f : Frame) : Laws.FrameBytes.Statement (.restartChannels f) :=
  fun _ _ e => by cases e; exact Nat.succ_pos _

theorem Laws.FrameBytes.setView (f : Frame) : Laws.FrameBytes.Statement (.setView f) :=
  fun _ _ e => by cases e; exact Nat.succ_pos _

theorem Laws.FrameBytes.lookup (f : Frame) : Laws.FrameBytes.Statement (.lookup f) :=
  fun _ _ e => by cases e; exact Nat.succ_pos _

theorem Laws.FrameBytes.scan (f : Frame) : Laws.FrameBytes.Statement (.scan f) :=
  fun _ _ e => by cases e; exact Nat.succ_pos _

theorem Laws.FrameBytes.changes (f : Frame) : Laws.FrameBytes.Statement (.changes f) :=
  fun _ _ e => by cases e; exact Nat.succ_pos _

theorem Laws.FrameBytes.seed (f : Frame) : Laws.FrameBytes.Statement (.seed f) :=
  fun _ _ e => by cases e; exact Nat.succ_pos _

theorem Laws.FrameBytes.mark (f : Frame) : Laws.FrameBytes.Statement (.mark f) :=
  fun _ _ e => by cases e; exact Nat.succ_pos _

theorem Laws.FrameBytes.clearStats (f : Frame) : Laws.FrameBytes.Statement (.clearStats f) :=
  fun _ _ e => by cases e; exact Nat.succ_pos _

theorem Laws.FrameBytes.retire (f : Frame) : Laws.FrameBytes.Statement (.retire f) :=
  fun _ _ e => by cases e; exact Nat.succ_pos _

theorem Laws.FrameBytes.unknownRequestCode (bytes : List Byte) :
    Laws.FrameBytes.Statement (.unknownRequestCode bytes) := by
  intro h bs e
  cases e
  cases bytes with
  | nil => exact absurd h (by decide)
  | cons _ _ => exact Nat.succ_pos _

end Sys2Proof
end

