-- ==== Sys2Proof/Laws/Records.lean ====
section
/-! SUPPORT. What the slot list, the choice of a victim and the return of a record to its slot give, as
equations. -/

namespace Sys2Proof.Machine

/-! ### Slots in rising order -/

/-- Slot numbers rise (R82). -/
def SlotsRise (l : List (Nat × SourceRecord)) : Prop := (l.map (·.1)).Pairwise (· < ·)

/-- A record put in a slot keeps the order of slots. -/
theorem SlotsRise.putSlot {slot : Nat} {r : SourceRecord} {l : List (Nat × SourceRecord)}
    (h : SlotsRise l) : SlotsRise (putSlot slot r l) := by
  induction l with
  | nil => simp [Machine.putSlot, SlotsRise]
  | cons a t ih =>
    unfold Machine.putSlot
    simp only [SlotsRise, List.map_cons, List.pairwise_cons] at h
    obtain ⟨h1, h2⟩ := h
    split
    · rename_i hh
      simp only [SlotsRise, List.map_cons, List.pairwise_cons]
      refine ⟨?_, h1, h2⟩
      intro b hb
      simp at hb
      rcases hb with rfl | hb
      · exact hh
      · have := h1 b (by simpa using hb)
        omega
    · split
      · rename_i hh
        subst hh
        exact List.pairwise_cons.2 ⟨h1, h2⟩
      · simp only [SlotsRise, List.map_cons, List.pairwise_cons]
        refine ⟨?_, ih h2⟩
        intro b hb
        simp at hb
        obtain ⟨q, hb⟩ := hb
        rcases mem_putSlot hb with h | h
        · cases h
          omega
        · exact h1 b (by simp; exact ⟨q, h⟩)

/-- A slot made free keeps the order of slots. -/
theorem SlotsRise.filter {l : List (Nat × SourceRecord)} (p : Nat × SourceRecord → Bool)
    (h : SlotsRise l) : SlotsRise (l.filter p) :=
  h.sublist (List.filter_sublist.map _)

/-- What each slot holds after a record is put in one. -/
theorem SourceTable.at?_put {t : SourceTable} (h : SlotsRise t.slots) (slot : Nat) (r : SourceRecord)
    (n : Nat) : (t.put slot r).at? n = if n = slot then some r else t.at? n := by
  unfold SourceTable.at? SourceTable.put
  simp only
  generalize t.slots = l at h
  induction l with
  | nil =>
    by_cases hn : n = slot
    · simp [putSlot, hn]
    · have : (slot == n) = false := by simp; omega
      simp [putSlot, hn, this]
  | cons a t ih =>
    simp only [SlotsRise, List.map_cons, List.pairwise_cons] at h
    have ih := ih h.2
    unfold putSlot
    split
    · by_cases hn : n = slot
      · simp [hn]
      · have : (slot == n) = false := by simp; omega
        simp [List.find?_cons, hn, this]
    · split
      · rename_i hh
        subst hh
        by_cases hn : n = a.1
        · simp [hn]
        · have : (a.1 == n) = false := by simp; omega
          simp [hn, this]
      · rw [List.find?_cons]
        by_cases hn : a.1 = n
        · have : ¬n = slot := by omega
          simp [hn, this]
        · have : (a.1 == n) = false := by simp [hn]
          simp only [this, ih, List.find?_cons]

/-- What each slot holds after one is made free. -/
theorem SourceTable.at?_remove (t : SourceTable) (slot n : Nat) :
    (t.remove slot).at? n = if n = slot then none else t.at? n := by
  unfold SourceTable.at? SourceTable.remove
  simp only
  generalize t.slots = l
  induction l with
  | nil => simp
  | cons a l ih =>
    rw [List.filter_cons]
    by_cases hn : a.1 = slot
    · simp only [hn, bne_self_eq_false, Bool.false_eq_true, if_false, ih, List.find?_cons]
      by_cases h2 : n = slot
      · simp [h2]
      · have : (slot == n) = false := by simp; omega
        simp [h2, this]
    · have : (a.1 != slot) = true := by simp [hn]
      simp only [this, if_true, List.find?_cons]
      by_cases h3 : a.1 = n
      · have : ¬n = slot := by omega
        simp [h3, this]
      · have : (a.1 == n) = false := by simp [h3]
        simp only [this, ih]

/-- A record found in a slot stands in the slot list. -/
theorem SourceTable.mem_of_at? {t : SourceTable} {n : Nat} {r : SourceRecord} (h : t.at? n = some r) :
    (n, r) ∈ t.slots := by
  unfold SourceTable.at? at h
  rw [Option.map_eq_some_iff] at h
  obtain ⟨q, h1, h2⟩ := h
  have h3 := List.find?_some h1
  simp at h3
  rw [← h3, ← h2]
  exact List.mem_of_find?_eq_some h1

/-- A slot is taken exactly when it is listed. -/
theorem SourceTable.at?_isSome (t : SourceTable) (n : Nat) :
    (t.at? n).isSome = true ↔ ∃ e ∈ t.slots, e.1 = n := by
  simp [SourceTable.at?]

/-- The lowest number from `n` on that no entry has, where the entries rise from `n` on. -/
theorem firstFree_spec (l : List (Nat × SourceRecord)) : ∀ n, SlotsRise l → (∀ e ∈ l, n ≤ e.1) →
    (∀ e ∈ l, e.1 ≠ firstFree n l) ∧ ∀ m, n ≤ m → m < firstFree n l → ∃ e ∈ l, e.1 = m := by
  induction l with
  | nil => exact fun n _ _ => ⟨fun e he => absurd he List.not_mem_nil, fun m h1 h2 => absurd h2 (Nat.not_lt.2 h1)⟩
  | cons a rest ih =>
    intro n hr hn
    simp only [SlotsRise, List.map_cons, List.pairwise_cons] at hr
    have up : ∀ e ∈ rest, a.1 < e.1 := fun e he => hr.1 e.1 (List.mem_map_of_mem he)
    unfold firstFree
    split
    · rename_i h
      obtain ⟨h1, h2⟩ := ih (n + 1) hr.2 fun e he => by
        have := up e he
        omega
      have low : ∀ l n, n ≤ firstFree n l := by
        intro l
        induction l with
        | nil => exact fun n => Nat.le_refl n
        | cons b l ih =>
          intro n
          unfold firstFree
          split
          · have := ih (n + 1)
            omega
          · exact Nat.le_refl n
      have := low rest (n + 1)
      refine ⟨fun e he => ?_, fun m g1 g2 => ?_⟩
      · rcases List.mem_cons.1 he with rfl | he
        · omega
        · exact h1 e he
      · by_cases g : m = n
        · exact ⟨a, List.mem_cons_self, by omega⟩
        · obtain ⟨e, he, h⟩ := h2 m (by omega) g2
          exact ⟨e, List.mem_cons_of_mem _ he, h⟩
    · rename_i h
      refine ⟨fun e he => ?_, fun m g1 g2 => by omega⟩
      have := hn a List.mem_cons_self
      rcases List.mem_cons.1 he with rfl | he
      · exact h
      · have := up e he
        omega

/-- The slot that a creation takes is the lowest free one (R83). -/
theorem SourceTable.freeSlot_of_lowestFree {t : SourceTable} (h : SlotsRise t.slots) {slot : Nat}
    (f : t.LowestFree slot) : t.freeSlot = some slot := by
  obtain ⟨f1, f2, f3⟩ := f
  obtain ⟨h1, h2⟩ := firstFree_spec t.slots 0 h fun _ _ => Nat.zero_le _
  have e : firstFree 0 t.slots = slot := by
    rcases Nat.lt_trichotomy (firstFree 0 t.slots) slot with g | g | g
    · obtain ⟨e, he, g⟩ := (t.at?_isSome _).1 (f3 _ g)
      exact absurd g (h1 e he)
    · exact g
    · have := (t.at?_isSome slot).2 (h2 slot (Nat.zero_le _) g)
      rw [f2] at this
      cases this
  unfold SourceTable.freeSlot
  simp only [e, Config.tableCapacity, f1, if_true]

/-- A full table has no free slot. -/
theorem SourceTable.freeSlot_of_full {t : SourceTable} (h : SlotsRise t.slots) (f : t.Full) :
    t.freeSlot = none := by
  obtain ⟨h1, -⟩ := firstFree_spec t.slots 0 h fun _ _ => Nat.zero_le _
  unfold SourceTable.freeSlot
  simp only [Config.tableCapacity]
  by_cases g : firstFree 0 t.slots < 1024
  · obtain ⟨e, he, g⟩ := (t.at?_isSome _).1 (f _ g)
    exact absurd g (h1 e he)
  · simp only [g, if_false]

/-- A record that stands in the table is found by its key (R82, R84). -/
theorem SourceTable.find?_of_mem {t : SourceTable} (h : (t.slots.map (·.2.key)).Nodup) {slot : Nat}
    {r : SourceRecord} (m : (slot, r) ∈ t.slots) : t.find? r.key = some (slot, r) := by
  unfold SourceTable.find?
  generalize t.slots = l at h m
  induction l with
  | nil => cases m
  | cons a l ih =>
    rw [List.map_cons, List.nodup_cons] at h
    rw [List.find?_cons]
    rcases List.mem_cons.1 m with rfl | m
    · simp
    · have : (a.2.key == r.key) = false := by
        rw [beq_eq_false_iff_ne]
        intro g
        exact h.1 (g ▸ List.mem_map_of_mem (f := (·.2.key)) m)
      simp only [this]
      exact ih h.2 m

/-- A key of no record is not found. -/
theorem SourceTable.find?_eq_none {t : SourceTable} {k : CellKey} (h : ∀ e ∈ t.slots, e.2.key ≠ k) :
    t.find? k = none := by
  rw [SourceTable.find?, List.find?_eq_none]
  intro e he
  simpa using h e he

/-! ### The victim (R93) -/

theorem SourceRecord.not_evictedBefore_self (a : SourceRecord) : a.evictedBefore a = false := by
  simp [SourceRecord.evictedBefore, CellKey.before]

theorem SourceRecord.evictedBefore_asymm {a b : SourceRecord} (h : a.evictedBefore b = true) :
    b.evictedBefore a = false := by
  revert h
  simp only [SourceRecord.evictedBefore, CellKey.before, Bool.or_eq_true, Bool.and_eq_true,
    decide_eq_true_eq]
  intro h
  rw [← Bool.not_eq_true]
  simp only [Bool.or_eq_true, Bool.and_eq_true, decide_eq_true_eq]
  omega

/-- The candidate that comes before every other one is the victim. -/
theorem chooseVictim_eq {l : List (Nat × SourceRecord)} {v : Nat × SourceRecord} (hv : v ∈ l)
    (he : v.2.evictable = true)
    (h : ∀ q ∈ l, q.2.evictable = true → q = v ∨ v.2.evictedBefore q.2 = true) :
    chooseVictim l = some v := by
  induction l with
  | nil => simp at hv
  | cons a rest ih =>
    unfold chooseVictim
    by_cases hr : v ∈ rest
    · rw [ih hr fun q hq => h q (by simp [hq])]
      by_cases ha : a.2.evictable = true
      · rcases h a (by simp) ha with h' | h'
        · subst h'
          simp [SourceRecord.not_evictedBefore_self]
        · simp [SourceRecord.evictedBefore_asymm h']
      · simp [ha]
    · have : v = a := by simpa [hr] using hv
      subst this
      cases hc : chooseVictim rest with
      | none => simp [he]
      | some w =>
        have := chooseVictim_some hc
        rcases h w (by simp [this.1]) this.2 with h' | h'
        · subst h'
          exact absurd this.1 hr
        · simp [he, h']

/-- The order of eviction, step by step (R93). -/
theorem SourceRecord.evictedBefore_iff (a b : SourceRecord) : a.evictedBefore b = true ↔ a.Outranks b := by
  unfold SourceRecord.evictedBefore SourceRecord.Outranks CellKey.before
  simp only [Bool.or_eq_true, Bool.and_eq_true, decide_eq_true_eq]
  refine or_congr Iff.rfl (and_congr_right fun _ => ?_)
  cases ha : a.lastTime <;> cases hb : b.lastTime <;> simp [timeRank]

/-- The candidate that R93 names is the victim. -/
theorem SourceTable.chooseVictim_of_victim {t : SourceTable} {slot : Nat} {v : SourceRecord}
    (h : t.Victim slot v) : chooseVictim t.slots = some (slot, v) := by
  obtain ⟨h1, h2, h3, h4⟩ := h
  refine chooseVictim_eq h1 (by simp [SourceRecord.evictable, h2, h3]) fun q hq he => ?_
  simp only [SourceRecord.evictable, Bool.and_eq_true, beq_iff_eq, Bool.not_eq_true'] at he
  exact (h4 q hq he.1 he.2).imp_right (SourceRecord.evictedBefore_iff v q.2).2

/-- Where no record is a candidate there is no victim. -/
theorem chooseVictim_eq_none {l : List (Nat × SourceRecord)}
    (h : ∀ q ∈ l, q.2.grade = 0 → q.2.pinned = true) : chooseVictim l = none := by
  cases hc : chooseVictim l with
  | none => rfl
  | some v =>
    obtain ⟨h1, h2⟩ := chooseVictim_some hc
    simp [SourceRecord.evictable] at h2
    have := h v h1 h2.1
    simp [this] at h2

/-! ### Records and zones put back -/

/-- A record put back after an operation, as one equation (R119). -/
theorem State.settleRecord_eq (s : State) (slot : Nat) (r : SourceRecord) (found : Nat) :
    s.settleRecord slot r found =
      { s with
        table := s.table.put slot (raisedRecord r found), zones := raisedZones s.zones r found } := by
  rcases State.settleRecord_cases s slot r found with ⟨h1, h2, h3⟩ | ⟨h1, h2⟩
  · simp [h3, raisedRecord, raisedZones, h1, h2, State.updTable, State.raiseZone, State.updZone]
  · rw [h2]
    unfold raisedRecord raisedZones
    rcases h1 with h | h
    · have : ¬found < r.grade := by omega
      simp [this, State.updTable]
    · cases r
      simp at h
      simp [h, State.updTable]

/-- One zone set, read at any zone. -/
theorem zones_set_get (zones : Vector Zone 64) (c d : Channel) (z : Zone) :
    (zones.set c z)[d] = if c = d then z else zones[d] := by
  by_cases h : c = d
  · subst h
    simp
  · have : c.val ≠ d.val := fun g => h (Fin.ext g)
    simp [this, h]

/-- No grade of any zone is lower, and no unlocated count is changed. -/
def ZonesRise (a b : Vector Zone 64) : Prop :=
  ∀ c : Channel, a[c].live ≤ b[c].live ∧ a[c].building ≤ b[c].building ∧
    b[c].unlocated = a[c].unlocated

theorem ZonesRise.refl (a : Vector Zone 64) : ZonesRise a a := fun _ => ⟨Nat.le_refl _, Nat.le_refl _, rfl⟩

theorem ZonesRise.trans {a b c : Vector Zone 64} (h : ZonesRise a b) (g : ZonesRise b c) :
    ZonesRise a c := by
  intro x
  have := h x
  have := g x
  omega

/-- A raise lowers no zone (R170). -/
theorem zonesRise_raisedZones (zones : Vector Zone 64) (r : SourceRecord) (found : Nat) :
    ZonesRise zones (raisedZones zones r found) := by
  unfold raisedZones
  split
  · intro c
    rw [zones_set_get]
    split
    · rename_i h
      subst h
      exact ⟨Nat.le_max_left _ _, Nat.le_max_left _ _, rfl⟩
    · exact ⟨Nat.le_refl _, Nat.le_refl _, rfl⟩
  · exact ZonesRise.refl _

/-- The building grade of a zone after a raise: as it was, or raised to the record's grade. -/
theorem raisedZones_building (zones : Vector Zone 64) (r : SourceRecord) (found : Nat) (c : Channel) :
    (raisedZones zones r found)[c].building = zones[c].building ∨
      (r.home = c ∧ (raisedZones zones r found)[c].building = max zones[c].building r.grade) := by
  unfold raisedZones
  split
  · rw [zones_set_get]
    split
    · rename_i h
      subst h
      exact .inr ⟨rfl, rfl⟩
    · exact .inl rfl
  · exact .inl rfl

end Sys2Proof.Machine
end

