-- ==== Sys2Proof/Laws/Step.lean ====
section
/-! SUPPORT. No command stops the part: every command of every state answers a next state. And every command but
those of RESETn, of a grant, of the lock's expiry and of a frame start comes after the grant that is owed, one that
may offer an event while the Event Queue is not full, and a PLIN data character but for a rupture before a fold. -/

namespace Sys2Proof.Machine

/-- A command on a part that may be held in reset answers a next state. -/
theorem whileReleased_next (s t : State) : ∃ u, whileReleased s t = .next u := by
  rcases whileReleased_cases s t with ⟨-, h⟩ | ⟨-, h⟩ <;> exact ⟨_, h⟩

/-- A command that may offer an event comes after the grant that is owed, or before it at a full Event Queue
(R35). -/
theorem offering_cases (s : State) (f : State → State) :
    (s.former.queue.length < 64 ∧ offering s f = afterGrant s f) ∨
      (64 ≤ s.former.queue.length ∧ offering s f = whileReleased s (f s)) := by
  unfold offering
  split
  · exact .inl ⟨‹_›, rfl⟩
  · exact .inr ⟨Nat.le_of_not_lt ‹_›, rfl⟩

/-- A command that may offer an event answers a next state. -/
theorem offering_next (s : State) (f : State → State) : ∃ u, offering s f = .next u := by
  rcases offering_cases s f with ⟨-, h⟩ | ⟨-, h⟩ <;> rw [h] <;> exact whileReleased_next _ _

/-- A PLIN data character comes before a fold that is owed where it latches a rupture (R168), and otherwise after the
grant that is owed. -/
theorem execPlinDataCharacter_cases (ch : Character) (s : State) :
    (s.grantChoice = some .fold ∧ s.latchesRupture ch = true ∧
        execPlinDataCharacter ch s = whileReleased s (s.takePlinCharacter ch)) ∨
      (¬(s.grantChoice = some .fold ∧ s.latchesRupture ch = true) ∧
        execPlinDataCharacter ch s = afterGrant s fun s => s.takePlinCharacter ch) := by
  unfold execPlinDataCharacter
  split
  · rename_i h
    exact .inl ⟨h.1, h.2, rfl⟩
  · exact .inr ⟨‹_›, rfl⟩

/-- Every command answers a next state. -/
theorem exec_next (i : Instr) (s : State) : ∃ t, exec i s = .next t := by
  cases i
  case reset => exact ⟨_, rfl⟩
  case resetnRelease => exact ⟨_, rfl⟩
  case hitPlacement => exact offering_next _ _
  case eventExpiry => exact offering_next _ _
  case plinDataCharacter ch =>
    show ∃ t, execPlinDataCharacter ch s = .next t
    rcases execPlinDataCharacter_cases ch s with ⟨-, -, h⟩ | ⟨-, h⟩ <;> rw [h] <;> exact whileReleased_next _ _
  all_goals exact whileReleased_next _ _

/-- Every command but RESETn's, the grants, the lock's expiry and a frame start does its work after the grant that
is owed (R1, R144, R151, R173); one that may offer an event does so while the Event Queue is not full (R35), and a
PLIN data character where it latches no rupture before a fold (R168). -/
theorem exec_afterGrant {c : Instr} (h1 : c ≠ .reset) (h2 : c ≠ .resetnRelease) (h3 : c ≠ .portGrant)
    (h4 : c ≠ .fold) (h5 : c ≠ .sweepSlice) (h6 : c ≠ .lockExpiry)
    (h7 : c ≠ .annunciatorFrameStart) :
    ∃ f, ∀ s, (c = .hitPlacement ∨ c = .eventExpiry → s.former.queue.length < 64) →
      (∀ ch, c = .plinDataCharacter ch → ¬(s.grantChoice = some .fold ∧ s.latchesRupture ch = true)) →
      exec c s = afterGrant s f := by
  cases c
  case geometryWrite | sampleTimeoutWrite | lockLimitWrite | annEnableWrite =>
    unfold exec execGeometryWrite execSampleTimeoutWrite execLockLimitWrite execAnnEnableWrite
    exact ⟨_, fun _ _ _ => rfl⟩
  case hitPlacement => exact ⟨_, fun _ h _ => if_pos (h (.inl rfl))⟩
  case eventExpiry => exact ⟨_, fun _ h _ => if_pos (h (.inr rfl))⟩
  case plinDataCharacter ch => exact ⟨_, fun _ _ h => if_neg (h ch rfl)⟩
  all_goals first
    | contradiction
    | dsimp only [exec]; exact ⟨_, fun _ _ _ => rfl⟩

/-- Every step answers a next state. -/
theorem step_next (s : State) : ∃ t, step s = .next t := by
  unfold step
  split
  · exact ⟨_, rfl⟩
  · exact exec_next _ _

end Sys2Proof.Machine
end

