-- ==== Sys2Proof/Laws/Sweeps.lean ====
section
/-! SUPPORT. What the visit of a slot, the visits of a run of slots and a slice do, said once. -/

namespace Sys2Proof.Machine

/-! ### One visit -/

/-- The zones after the last step of a visit (R136). -/
def builtZones (zones : Vector Zone 64) (r : SourceRecord) : Vector Zone 64 :=
  if r.muted then zones
  else zones.set r.home { zones[r.home] with building := max zones[r.home].building r.grade }

theorem State.buildZone_eq (s : State) (r : SourceRecord) :
    s.buildZone r = { s with zones := builtZones s.zones r } := by
  unfold State.buildZone builtZones
  split <;> simp [State.updZone]

theorem builtZones_get (zones : Vector Zone 64) (r : SourceRecord) (c : Channel) :
    (builtZones zones r)[c] =
      if r.muted = false ∧ r.home = c then
        { zones[c] with building := max zones[c].building r.grade }
      else zones[c] := by
  unfold builtZones
  split
  · rename_i h
    simp [h]
  · rename_i h
    rw [zones_set_get]
    by_cases hc : r.home = c
    · subst hc
      simp [h]
    · simp [hc]

/-- The live and building grades of a zone after the return of a visited record (R119, R136). -/
theorem visitedZones_get (zones : Vector Zone 64) (r : SourceRecord) (found : Nat) (c : Channel) :
    (builtZones (raisedZones zones r found) r)[c] =
      if r.muted = false ∧ r.home = c then
        { zones[c] with
          live := if found < r.grade then max zones[c].live r.grade else zones[c].live
          building := max zones[c].building r.grade }
      else zones[c] := by
  rw [builtZones_get]
  unfold raisedZones
  by_cases hm : r.muted = false
  · by_cases hc : r.home = c
    · subst hc
      by_cases hf : found < r.grade
      · simp only [hm, hf, and_self, if_true, zones_set_get]
        congr 1
        omega
      · simp [hm, hf]
    · by_cases hf : found < r.grade
      · simp only [hm, hf, hc, and_self, and_false, if_true, if_false, zones_set_get]
      · simp [hf, hc]
  · simp [hm]

/-- The state after the visits of `n` slots from a slot, but for the table and the zones: the operation in
progress has noted the records they retired. -/
def State.afterVisits (s t : State) (slot n : Nat) : State :=
  { s with
    table := t.table
    zones := t.zones
    arbiter := { s.arbiter with
      operation := s.arbiter.operation.map fun op =>
        { op with autoRetired := op.autoRetired + s.table.retiredIn s.params slot n } } }

theorem SourceTable.retiredIn_one (t : SourceTable) (p : Params) (slot : Nat) :
    t.retiredIn p slot 1 =
      match t.at? slot with
      | some r => if r.retiredByVisit p then 1 else 0
      | none => 0 := rfl

/-- The count rests on the visited slots alone. -/
theorem SourceTable.retiredIn_congr (p : Params) {a b : SourceTable} (n : Nat) : ∀ slot : Nat,
    (∀ m, slot ≤ m → b.at? m = a.at? m) → b.retiredIn p slot n = a.retiredIn p slot n := by
  induction n with
  | zero => intro slot _; rfl
  | succ n ih =>
    intro slot h
    simp only [SourceTable.retiredIn]
    rw [h slot (Nat.le_refl _), ih (slot + 1) fun m hm => h m (by omega)]

theorem SourceRecord.retires_visit (p : Params) (r : SourceRecord) :
    (r.visit p).retires p = r.retiredByVisit p := by
  have h : (r.visit p).pinned = r.pinned := rfl
  unfold SourceRecord.retires SourceRecord.retiredByVisit
  rw [h]
  congr 2

theorem operation_map_add (o : Option Operation) (a b : Nat) :
    (o.map fun op => { op with autoRetired := op.autoRetired + a }).map
        (fun op => { op with autoRetired := op.autoRetired + b }) =
      o.map fun op => { op with autoRetired := op.autoRetired + (a + b) } := by
  cases o <;> simp [Nat.add_assoc]

theorem operation_map_zero (o : Option Operation) :
    (o.map fun op => { op with autoRetired := op.autoRetired + 0 }) = o := by
  cases o <;> rfl

/-- The visit of one slot (R132 to R136). -/
theorem State.visitSlot_visited (s : State) (h : SlotsRise s.table.slots) (slot : Nat) :
    SlotsRise (s.visitSlot slot).table.slots ∧
      Visited s.params (fun n => n = slot) s.table (s.visitSlot slot).table s.zones
        (s.visitSlot slot).zones ∧
      s.visitSlot slot = s.afterVisits (s.visitSlot slot) slot 1 := by
  unfold State.afterVisits
  rw [SourceTable.retiredIn_one]
  rcases State.visitSlot_cases s slot with ⟨h1, h2⟩ | ⟨r, h1, ⟨h2, h3⟩ | ⟨h2, h3⟩⟩
  · rw [h2, h1]
    refine ⟨h, ⟨fun _ _ => rfl, fun _ _ g => g, ?_, ?_, ⟨rfl, rfl, rfl⟩, ?_, fun _ => .inl rfl, ?_,
      fun _ => .inl rfl, fun _ => rfl⟩, ?_⟩
    iterate 4
      rintro n r rfl g
      rw [h1] at g
      cases g
    simp only [operation_map_zero]
  · rw [h3, h1]
    rw [SourceRecord.retires_visit] at h2
    have hg : (r.visit s.params).grade = 0 := by
      simp only [SourceRecord.retiredByVisit, Bool.and_eq_true, decide_eq_true_eq] at h2
      exact h2.1.1
    have hat : ∀ n, (s.table.remove slot).at? n = if n = slot then none else s.table.at? n :=
      fun n => s.table.at?_remove slot n
    refine ⟨h.filter _, ⟨fun n hn => ?_, ?_, ?_, ?_, ⟨rfl, rfl, rfl⟩, ?_, fun _ => .inl rfl, ?_,
      fun _ => .inl rfl, fun _ => rfl⟩, ?_⟩
    · exact (hat n).trans (if_neg hn)
    · rintro n rfl _
      exact (hat n).trans (if_pos rfl)
    · rintro n q rfl _ _
      exact (hat n).trans (if_pos rfl)
    · rintro n q rfl g
      rw [h1] at g
      cases g
      simp [h2]
    · rintro n q rfl g _ hlt
      rw [h1] at g
      cases g
      omega
    · rintro n q rfl g
      rw [h1] at g
      cases g
      simp [h2]
    · simp only [h2, if_true]
      rfl
  · rw [h3, h1, State.settleRecord_eq, State.buildZone_eq]
    rw [SourceRecord.retires_visit] at h2
    have hm : (r.visit s.params).muted = r.muted := rfl
    have hh : (r.visit s.params).home = r.home := rfl
    have hz := visitedZones_get s.zones (r.visit s.params) r.grade
    rw [hm, hh] at hz
    have hat := s.table.at?_put h slot (raisedRecord (r.visit s.params) r.grade)
    refine ⟨h.putSlot, ⟨fun n hn => (hat n).trans (if_neg hn), ?_, ?_, ?_, ⟨rfl, rfl, rfl⟩, ?_, fun c => ?_,
      ?_, fun c => ?_, fun c => ?_⟩, ?_⟩
    · rintro n rfl g
      rw [h1] at g
      cases g
    · rintro n q rfl g
      rw [h1] at g
      cases g
      simp [h2]
    · rintro n q rfl g _
      rw [h1] at g
      cases g
      exact (hat n).trans (if_pos rfl)
    · rintro n q rfl g hq hlt
      rw [h1] at g
      cases g
      simp only [hz, hq, and_self, if_true, hlt]
      exact Nat.le_max_right _ _
    · simp only [hz]
      split
      · rename_i hc
        by_cases hlt : r.grade < (r.visit s.params).grade
        · by_cases hle : (r.visit s.params).grade ≤ s.zones[c].live
          · left
            simp only [hlt, if_true]
            omega
          · right
            simp only [hlt, if_true]
            exact ⟨by omega, slot, r, rfl, h1, hc.1, hc.2, hlt, by omega⟩
        · left
          simp only [hlt, if_false]
      · exact .inl rfl
    · rintro n q rfl g _ hq
      rw [h1] at g
      cases g
      simp only [hz, hq, and_self, if_true]
      exact Nat.le_max_right _ _
    · simp only [hz]
      split
      · rename_i hc
        by_cases hle : (r.visit s.params).grade ≤ s.zones[c].building
        · left
          simp only
          omega
        · right
          simp only
          exact ⟨by omega, slot, r, rfl, h1, h2, hc.1, hc.2, by omega⟩
      · exact .inl rfl
    · simp only [hz]
      split <;> rfl
    · simp only [h2, Bool.false_eq_true, if_false, operation_map_zero]

/-! ### Several visits -/

/-- Visits of other slots after visits of some. -/
theorem Visited.trans {p : Params} {v w x : Nat → Prop} {a b d : SourceTable} {y u z : Vector Zone 64}
    (f : Visited p v a b y u) (g : Visited p w b d u z) (hx : ∀ n, x n ↔ v n ∨ w n)
    (hd : ∀ n, v n → ¬w n) : Visited p x a d y z := by
  have keep : ∀ n, w n → b.at? n = a.at? n := fun n hn => f.other n fun hv => hd n hv hn
  have up : ∀ c : Channel, u[c].live ≤ z[c].live ∧ u[c].building ≤ z[c].building := fun c =>
    ⟨by rcases g.live c with h | h <;> omega, by rcases g.building c with h | h <;> omega⟩
  refine ⟨fun n hn => ?_, fun n hn h => ?_, fun n r hn h hr => ?_, fun n r hn h hr => ?_, ?_,
    fun n r hn h hm hlt => ?_, fun c => ?_, fun n r hn h hr hm => ?_, fun c => ?_, fun c => ?_⟩
  · rw [hx, not_or] at hn
    rw [g.other n hn.2, f.other n hn.1]
  · rcases (hx n).1 hn with hv | hw
    · rw [g.other n (hd n hv)]
      exact f.free n hv h
    · exact g.free n hw (by rw [keep n hw]; exact h)
  · rcases (hx n).1 hn with hv | hw
    · rw [g.other n (hd n hv)]
      exact f.retired n r hv h hr
    · exact g.retired n r hw (by rw [keep n hw]; exact h) hr
  · rcases (hx n).1 hn with hv | hw
    · rw [g.other n (hd n hv)]
      exact f.kept n r hv h hr
    · exact g.kept n r hw (by rw [keep n hw]; exact h) hr
  · have := f.counters
    have := g.counters
    simp_all only [and_self]
  · rcases (hx n).1 hn with hv | hw
    · exact Nat.le_trans (f.raises n r hv h hm hlt) (up r.home).1
    · exact g.raises n r hw (by rw [keep n hw]; exact h) hm hlt
  · rcases g.live c with h | ⟨h, n, r, hw, ha, rest⟩
    · rcases f.live c with h' | ⟨h', n, r, hv, rest⟩
      · exact .inl (h.trans h')
      · exact .inr ⟨by omega, n, r, (hx n).2 (.inl hv), by rw [h]; exact rest⟩
    · refine .inr ⟨?_, n, r, (hx n).2 (.inr hw), by rw [← keep n hw]; exact ha, rest⟩
      rcases f.live c with h' | h' <;> omega
  · rcases (hx n).1 hn with hv | hw
    · exact Nat.le_trans (f.builds n r hv h hr hm) (up r.home).2
    · exact g.builds n r hw (by rw [keep n hw]; exact h) hr hm
  · rcases g.building c with h | ⟨h, n, r, hw, ha, rest⟩
    · rcases f.building c with h' | ⟨h', n, r, hv, rest⟩
      · exact .inl (h.trans h')
      · exact .inr ⟨by omega, n, r, (hx n).2 (.inl hv), by rw [h]; exact rest⟩
    · refine .inr ⟨?_, n, r, (hx n).2 (.inr hw), by rw [← keep n hw]; exact ha, rest⟩
      rcases f.building c with h' | h' <;> omega
  · rw [g.unlocated c, f.unlocated c]

/-- The visits of `n` slots from a slot (R132). -/
theorem State.visitSlots_visited (n : Nat) : ∀ (s : State) (slot : Nat), SlotsRise s.table.slots →
    SlotsRise (s.visitSlots slot n).table.slots ∧
      Visited s.params (fun m => slot ≤ m ∧ m < slot + n) s.table (s.visitSlots slot n).table s.zones
        (s.visitSlots slot n).zones ∧
      s.visitSlots slot n = s.afterVisits (s.visitSlots slot n) slot n := by
  induction n with
  | zero =>
    intro s slot h
    refine ⟨h, ⟨fun _ _ => rfl, fun _ _ g => g, ?_, ?_, ⟨rfl, rfl, rfl⟩, ?_, fun _ => .inl rfl, ?_,
      fun _ => .inl rfl, fun _ => rfl⟩, ?_⟩
    iterate 4 exact fun m r hm => by omega
    simp only [State.visitSlots, State.afterVisits, SourceTable.retiredIn, operation_map_zero]
  | succ n ih =>
    intro s slot h
    obtain ⟨v1, v2, v3⟩ := s.visitSlot_visited h slot
    obtain ⟨w1, w2, w3⟩ := ih (s.visitSlot slot) (slot + 1) v1
    have hp : (s.visitSlot slot).params = s.params := by
      rw [v3]
      rfl
    rw [hp] at w2
    simp only [State.visitSlots]
    refine ⟨w1, v2.trans w2 (fun m => ?_) (fun m => ?_), ?_⟩
    · omega
    · omega
    · have hr : (s.visitSlot slot).table.retiredIn s.params (slot + 1) n =
          s.table.retiredIn s.params (slot + 1) n :=
        SourceTable.retiredIn_congr s.params n (slot + 1) fun m hm => v2.other m (by omega)
      have e : s.table.retiredIn s.params slot (n + 1) =
          s.table.retiredIn s.params slot 1 + s.table.retiredIn s.params (slot + 1) n := by
        simp only [SourceTable.retiredIn]
        omega
      unfold State.afterVisits at *
      rw [hp, hr] at w3
      rw [e, ← operation_map_add]
      generalize (s.visitSlot slot).visitSlots (slot + 1) n = t at *
      generalize s.visitSlot slot = u at *
      generalize SourceTable.retiredIn _ _ _ _ = x at *
      rw [w3]
      rw [v3]

/-! ### A slice -/

/-- A slice reaches the last slot exactly when it begins within the last 16 (R132). -/
theorem Sweep.slicesToEnd_eq (w : Sweep) :
    w.slicesToEnd = decide (1024 ≤ w.sliceStart + Config.sliceSlots) := by
  unfold Sweep.slicesToEnd Sweep.beginPass Sweep.sliceStart
  cases hp : w with
  | mk a b c d e => cases c <;> simp [Config.tableCapacity]

/-- A slice: its visits, and then the cursor moved on, or the pass ended, its backlog still to be lowered (R132, R137). -/
theorem State.slice_visited (s : State) (h : SlotsRise s.table.slots) :
    ∃ t : State, SlotsRise t.table.slots ∧
      Visited s.params
        (fun m => s.sweep.sliceStart ≤ m ∧ m < s.sweep.sliceStart + Config.sliceSlots) s.table t.table
        s.zones t.zones ∧
      t = s.afterVisits t s.sweep.sliceStart Config.sliceSlots ∧
      (s.sweep.sliceStart + Config.sliceSlots < 1024 → s.slice =
        { t with sweep :=
            { s.sweep with pass := true, cursor := s.sweep.sliceStart + Config.sliceSlots } }) ∧
      (1024 ≤ s.sweep.sliceStart + Config.sliceSlots → s.slice =
        { t with
          zones := t.zones.map fun z => { live := z.building, building := 0, unlocated := 0 }
          sweep := { s.sweep with pass := false, cursor := 0 } }) := by
  have hb : s.sweep.beginPass = { s.sweep with pass := true, cursor := s.sweep.sliceStart } := by
    unfold Sweep.beginPass Sweep.sliceStart
    cases hp : s.sweep with
    | mk a b c d e => cases c <;> simp
  have he : s.sweep.beginPass.slicesToEnd =
      decide (1024 ≤ s.sweep.sliceStart + Config.sliceSlots) := by
    rw [hb]
    rfl
  obtain ⟨v1, v2, v3⟩ := State.visitSlots_visited Config.sliceSlots
    { s with sweep := { s.sweep with pass := true, cursor := s.sweep.sliceStart } }
    s.sweep.sliceStart h
  have e : s.slice =
      if 1024 ≤ s.sweep.sliceStart + Config.sliceSlots then
        (State.visitSlots
          { s with sweep := { s.sweep with pass := true, cursor := s.sweep.sliceStart } }
          s.sweep.sliceStart Config.sliceSlots).endPass
      else
        (State.visitSlots
          { s with sweep := { s.sweep with pass := true, cursor := s.sweep.sliceStart } }
          s.sweep.sliceStart Config.sliceSlots).updSweep
          fun w => { w with cursor := w.cursor + Config.sliceSlots } := by
    unfold State.slice
    generalize Config.sliceSlots = N at *
    rw [hb] at he
    simp only [State.updSweep, hb]
    simp only [he, decide_eq_true_eq]
  rw [e]
  generalize Config.sliceSlots = N at *
  clear e he hb
  generalize State.visitSlots _ _ N = t at *
  refine ⟨s.afterVisits t s.sweep.sliceStart N, v1, v2, rfl, fun hs => ?_, fun hs => ?_⟩
  · rw [if_neg (by omega), v3]
    rfl
  · rw [if_pos hs, v3]
    rfl

end Sys2Proof.Machine
end

