-- ==== Sys2Proof/Tests/Slice0.lean ====
section
/-! SUPPORT. Tests of the model: which terms the well-formedness check refuses, frames and characters written
out from chapter 12, the worked sequences of the spec one step at a time, and for each obligation with
premises a state and operands that meet them. -/

namespace Sys2Proof.Machine.Tests

/-! ### Helpers -/

/-- The state a command leaves. -/
def after (c : Instr) (s : State) : State :=
  match exec c s with
  | .next t => t
  | _ => s

/-- A request frame with its payload bytes. -/
def frame (flags : Byte) (payload : List Byte) : Frame :=
  { flags := flags, length := BitVec.ofNat 8 payload.length, payload := payload }

/-- A read frame. -/
def reading (n : Nat) (overtaken : Bool) : ReadFrame := { bytes := n, overtaken := overtaken }

/-- A sensor map in which the listed channels are enabled at a ring and a column. -/
def sensorsAt (l : List (Channel × Fin 16 × Fin 16)) : Vector Sensor 64 :=
  l.foldl (fun v e => v.set e.1 { ring := e.2.1, column := e.2.2, enabled := true }) State.reset.sensors

/-- An intake whose settling is over, both lanes in one state. -/
def intakeAt (st : LaneState) : Intake :=
  { Intake.reset with
    phase := .done
    laneA := { LaneReceiver.reset with state := st }
    laneB := { LaneReceiver.reset with state := st } }

/-- Settled, in SETUP, channels 5 and 9 enabled. -/
def settled : State :=
  { State.reset with intake := intakeAt .closed, sensors := sensorsAt [(5, 1, 1), (9, 1, 2)] }

/-- LISTENING from there. -/
def listening : State :=
  { settled with
    intake := intakeAt .hunting
    run := { state := .listening, flavour := none }
    sweep := { Sweep.reset with timer := some { elapsed := 0, interval := 10000000 } } }

/-- A part in a run state with a freeze flavour. -/
def inRun (st : RunState) (flavour : Option Flavour) : State :=
  { listening with
    run := { state := st, flavour := flavour }, sweep := Sweep.reset }

/-- Lane A within a frame. -/
def onLaneA (fr : LaneFrame) (s : State) : State :=
  { s with intake := { s.intake with laneA := { s.intake.laneA with state := .accepting fr } } }

/-- A hit of a channel at a time, on the record of a test. -/
def hit (c : Channel) (time : Nat) : Descriptor :=
  { channel := c, time := time, amplitude := 60, energy := 7, duration := 100, riseTime := 9 }

/-- An open event of hits, its expiry 22000 ticks after the first, as the default parameters give. -/
def event (first : Descriptor) (rest : List Descriptor) : OpenEvent :=
  { first := first, rest := rest, expiry := first.time + 22000
    context := { pressure := none, phase := .noPressure, cycle := 1, hold := 0, priorPeak := 0 }
    early := false }

/-- LISTENING at a time, with a FIFO and open events. -/
def placing (now : Nat) (fifo : List Descriptor) (openSet : List OpenEvent) : State :=
  { listening with
    now := now
    intake := { listening.intake with fifo := fifo }
    former := { Former.reset with openSet := openSet } }

/-- A located event for a cell, of the given channel, context and quality. -/
def located (k : CellKey) (c : Channel) (q : Quality) (amplitude energy : Nat) (context : Context) :
    LocatedEvent :=
  { firstHit := 100, channel := c, members := 3, quality := q, z := 0, x := 0, cell := k
    amplitude := amplitude, energy := energy, context := context, early := false, held := false }

/-- No pressure, cycle 1. -/
def noContext : Context := { pressure := none, phase := .noPressure, cycle := 1, hold := 0, priorPeak := 0 }

/-- A NASCENT record of a cell. -/
def nascent (k : CellKey) (home : Channel) : SourceRecord := SourceRecord.ofFold k home

/-- A TRACKED record of a cell with HOLD met, grade 1. -/
def graded (k : CellKey) (home : Channel) : SourceRecord :=
  { SourceRecord.ofFold k home with tracked := true, met := { MetSet.empty with hold := true }, grade := 1 }

/-- A part with records in its table. -/
def withTable (slots : List (Nat × SourceRecord)) (s : State) : State :=
  { s with table := { s.table with slots := slots } }

/-- The wake of a request: taken, granted and completed. -/
def served (c : Instr) (s : State) : State := after .operationCompletion (after .portGrant (after c s))

/-- The status and the payload of the pending response. -/
def answer (s : State) : Option (Status × Payload) := s.port.response.map fun r => (r.status, r.payload)

/-! ### Well-formedness: an ill-formed term for each check -/

/-- A start bit of 1, a wrong parity, a stop bit of 0 and the wrong marker are refused (R4, R191). -/
theorem test_wf_hit_header :
    (Instr.hitLaneHeader .a 0b101000001010).WellFormed = true ∧
      (Instr.hitLaneHeader .a 0b101000001011).WellFormed = false ∧
      (Instr.hitLaneHeader .a 0b111000001010).WellFormed = false ∧
      (Instr.hitLaneHeader .a 0b001000001010).WellFormed = false ∧
      (Instr.hitLaneHeader .a 0b110000001010).WellFormed = false := by decide

theorem test_wf_hit_data :
    (Instr.hitLaneDataCharacter .b 0b110000001010).WellFormed = true ∧
      (Instr.hitLaneDataCharacter .b 0b110000001011).WellFormed = false ∧
      (Instr.hitLaneDataCharacter .b 0b100000001010).WellFormed = false ∧
      (Instr.hitLaneDataCharacter .b 0b101000001010).WellFormed = false := by decide

theorem test_wf_hit_error :
    (Instr.hitLaneCharacterError .a 0b111000001010).WellFormed = true ∧
      (Instr.hitLaneCharacterError .a 0b111000001011).WellFormed = false ∧
      (Instr.hitLaneCharacterError .a 0b101000001010).WellFormed = false := by decide

theorem test_wf_plin :
    (Instr.plinHeader 0b101000001011).WellFormed = false ∧
      (Instr.plinHeader 0b111000001010).WellFormed = false ∧
      (Instr.plinHeader 0b110000001010).WellFormed = false ∧
      (Instr.plinDataCharacter 0b110000001011).WellFormed = false ∧
      (Instr.plinDataCharacter 0b100000001010).WellFormed = false ∧
      (Instr.plinDataCharacter 0b101000001010).WellFormed = false ∧
      (Instr.plinCharacterError 0b111000001011).WellFormed = false ∧
      (Instr.plinCharacterError 0b101000001010).WellFormed = false := by decide

/-- A read frame with no byte; a CONFIG WRITE of a parameter with a row of its own; an unknown frame with no
byte, with the read code, or with a request code and a whole header. -/
theorem test_wf_frames :
    (Instr.responseRead (reading 0 false)).WellFormed = false ∧
      (Instr.configWrite (frame 0 [0x03, 100, 0])).WellFormed = false ∧
      (Instr.configWrite (frame 0 [0x11, 100, 0])).WellFormed = false ∧
      (Instr.configWrite (frame 0 [0x1C, 100, 0])).WellFormed = false ∧
      (Instr.configWrite (frame 0 [0x1D, 100, 0])).WellFormed = false ∧
      (Instr.configWrite (frame 0 [0x04, 100, 0])).WellFormed = true ∧
      (Instr.unknownRequestCode []).WellFormed = false ∧
      (Instr.unknownRequestCode [0x5A, 0, 0]).WellFormed = false ∧
      (Instr.unknownRequestCode [0x01, 0, 0]).WellFormed = false ∧
      (Instr.unknownRequestCode [0x01, 0]).WellFormed = true := by decide

/-! ### Characters and frames written out from chapter 12 -/

/-- Start 0, data bits 0 to 7, marker, odd parity, stop 1, read from the right: a hit header of channel 5,
a data character of 5, and the same with its parity turned (R4, R191, Table 12-1). -/
theorem test_decode_characters :
    decodeHitCharacter .a 0b101000001010 = some (.hitLaneHeader .a 0b101000001010) ∧
      decodeHitCharacter .b 0b110000001010 = some (.hitLaneDataCharacter .b 0b110000001010) ∧
      decodeHitCharacter .a 0b100000001010 = some (.hitLaneCharacterError .a 0b100000001010) ∧
      decodePlinCharacter 0b101110000000 = some (.plinHeader 0b101110000000) ∧
      characterData 0b101000001010 = 5 ∧ headerKind 0x05 = .hit ∧ headerChannel 0x45 = 5 ∧
      headerKind 0x45 = .fault ∧ headerKind 0x80 = .unused ∧ headerKind 0xC0 = .pressure := by decide

/-- A lane held at 1 delivers nothing, and a start bit is the first 0 on the idle lane and the first 0 after a stop
bit, one of 0 among them: 3 bits of 1, a data character of 5, 2 bits of 1, the same with a stop bit of 0, and at once
a header of channel 5 (R4). -/
theorem test_decode_line :
    let bits := fun (ch : Character) => (List.range 12).map fun j => ch.getLsbD j
    decodeHitLine .a (List.replicate 40 true) = [] ∧ decodeHitCharacter .a 0xFFF = none ∧
      decodePlinCharacter 0xFFF = none ∧
      decodeHitLine .a ([true, true, true] ++ bits 0b110000001010 ++ [true, true] ++ bits 0b010000001010 ++
          bits 0b101000001010 ++ [true]) =
        [.hitLaneDataCharacter .a 0b110000001010, .hitLaneCharacterError .a 0b010000001010,
          .hitLaneHeader .a 0b101000001010] := by decide

/-- Frames by their first byte (R176, R192, Table 12-5): a STATUS, a LOOKUP in long form, a CELL write of
100, a read frame, a code of no request, and a frame shorter than its header. -/
theorem test_decode_frames :
    decodeFrame [0x01, 0x00, 0x00] = some (.status (frame 0 [])) ∧
      decodeFrame [0x20, 0x02, 0x02, 24, 9] = some (.lookup (frame 0x02 [24, 9])) ∧
      decodeFrame [0x04, 0x00, 0x03, 0x03, 0x64, 0x00] = some (.geometryWrite 0 .cell 100) ∧
      decodeFrame [0x5A, 0xFF, 0xFF] = some (.responseRead (reading 3 false)) ∧
      decodeFrame [0x07, 0x00, 0x00] = some (.unknownRequestCode [0x07, 0x00, 0x00]) ∧
      decodeFrame [0x01, 0x00] = some (.unknownRequestCode [0x01, 0x00]) ∧ decodeFrame [] = none := by
  decide

/-- The bits of a byte, most significant first; a STATUS frame bit by bit, with three stray bits after it; and
SDO of a filler byte and 0x10 (R192). -/
theorem test_bit_order :
    byteBits 0x5A = [false, true, false, true, true, false, true, false] ∧
      decodeBits ([false, false, false, false, false, false, false, true] ++ List.replicate 19 false) =
        some (.status (frame 0 [])) ∧
      ({ listening with port := { Port.reset with sdo := [0xFF, 0x10] } }).sdoBits =
        List.replicate 8 true ++ [false, false, false, true, false, false, false, false] := by
  decide +kernel

/-- The table gives no bits, so no word spells a command. -/
theorem test_no_table_word (s : State) (n w : Nat) :
    decodeTableWord n w = none ∧ s.withFetchWord n w = s := ⟨rfl, rfl⟩

/-! ### Timebase -/

/-- RESET and its release (R1): everything goes back, and a command between them does nothing. -/
theorem test_reset :
    (after .reset listening).run.state = .setup ∧ (after .reset listening).resetAsserted = true ∧
      after .mergeServe (after .reset listening) = after .reset listening ∧
      after .resetnRelease (after .reset listening) = State.reset := by decide

/-- The wrap of the low ticks gives TBMARK, and the wrap of all 48 bits gives epoch 0 (R1, R2). -/
theorem test_low_ticks_wrap :
    (after .lowTicksWrap { listening with now := 3 * 2 ^ 32 - 1 }).epoch = 3 ∧
      (after .lowTicksWrap { listening with now := 3 * 2 ^ 32 - 1 }).lowTicks = 0 ∧
      (after .lowTicksWrap { listening with now := 3 * 2 ^ 32 - 1 }).tbmark = true ∧
      (after .lowTicksWrap { listening with now := 2 ^ 48 - 1 }).now = 0 := by decide

/-! ### Hit Intake (Table 1-2, Table 1-4) -/

/-- A data character. -/
def dataChar (b : Byte) : Character := makeCharacter false b

/-- Table 1-4, steps 3 and 5: a hit header of an accepted channel opens a frame; that of a channel no longer
accepted leaves the lane IGNORING and counts FOREIGN. -/
theorem test_hit_header :
    (after (.hitLaneHeader .a 0b101000001010) listening).intake.laneA.state =
        .accepting { kind := .hit, channel := 5, bytes := [] } ∧
      (after (.hitLaneHeader .b (makeCharacter true 40)) listening).intake.laneB.state = .ignoring ∧
      (after (.hitLaneHeader .b (makeCharacter true 40)) listening).intake.laneB.foreigns = 1 := by decide

/-- Lane A one character before the end of a hit frame of channel 5 with a frame time, amplitude 112, energy 7,
duration 310, rise time 40 (Table 1-4, step 1). -/
def lastByte (now : Nat) (time : List Byte) : State :=
  onLaneA { kind := .hit, channel := 5, bytes := time ++ [112, 7, 0, 0x36, 0x01] } { listening with now := now }

/-- Table 1-2, cases 1 and 3: a hit 34 ticks before the mark, its amplitude clamped to 100, and a hit 10,256
ticks ahead. -/
theorem test_hit_times :
    (after (.hitLaneDataCharacter .a (dataChar 40)) (lastByte (3 * 2 ^ 32 + 0x12) [0xF0, 0xFF, 0xFF, 0xFF])
        ).intake.laneA.slot =
        some { channel := 5, time := 2 * 2 ^ 32 + 0xFFFFFFF0, amplitude := 100, energy := 7
               duration := 310, riseTime := 40 } ∧
      (after (.hitLaneDataCharacter .a (dataChar 40)) (lastByte (2 * 2 ^ 32 + 0xFFFFFFF0) [0, 0x28, 0, 0])
        ).intake.timeFaults = 1 := by decide

/-- Table 1-2, cases 2 and 4: 21 ticks ahead, into the next epoch; and before the origin. -/
theorem test_hit_times_at_the_ends :
    ((after (.hitLaneDataCharacter .a (dataChar 40)) (lastByte (2 * 2 ^ 32 + 0xFFFFFFF0) [5, 0, 0, 0])
        ).intake.laneA.slot.map (·.time)) = some (3 * 2 ^ 32 + 5) ∧
      (after (.hitLaneDataCharacter .a (dataChar 40)) (lastByte 500 [0, 0xFF, 0xFF, 0xFF])
        ).intake.timeFaults = 1 := by decide

/-- Table 1-4, step 6: a parity error counts LINK_ERROR, sets the latch and leaves the lane HUNTING. -/
theorem test_hit_error :
    (after (.hitLaneCharacterError .a 0b100000001010) (lastByte 0 [0, 0, 0, 0])).intake.laneA.state =
        .hunting ∧
      (after (.hitLaneCharacterError .a 0b100000001010) (lastByte 0 [0, 0, 0, 0])).intake.laneA.linkErrors = 1 ∧
      (after (.hitLaneCharacterError .a 0b100000001010) (lastByte 0 [0, 0, 0, 0])).latches.linkError =
        true := by decide

/-- A full slot of lane A, and a FIFO of `n` descriptors. -/
def serving (n : Nat) : State :=
  { listening with intake := { listening.intake with
      laneA := { LaneReceiver.reset with state := .hunting, slot := some (hit 5 100) }
      lastServed := .a, fifo := List.replicate n (hit 9 50) } }

/-- Table 1-4, steps 2 and 8: with 31 entries the descriptor is staged, with 32 it is dropped. -/
theorem test_merge :
    (after .mergeServe (serving 31)).intake.fifo.length = 32 ∧
      (after .mergeServe (serving 31)).intake.hitsStaged = 1 ∧
      (after .mergeServe (serving 32)).intake.overruns = 1 ∧
      (after .mergeServe (serving 32)).latches.queueDrop = true ∧
      (after .mergeServe (serving 32)).intake.laneA.slot = none := by decide

/-- CHRST lasts 5120 ticks, and the settle interval 2^20 (R19, R20). -/
theorem test_settling :
    (after .restartCountExpiry { listening with intake :=
        { Intake.reset with phase := .restart, restartCount := 5120 } }).intake.phase = .settle ∧
      (after .restartCountExpiry { listening with intake :=
        { Intake.reset with phase := .restart, restartCount := 5119 } }).intake.phase = .restart ∧
      (after .settleCountExpiry { listening with intake :=
        { Intake.reset with settleCount := 2 ^ 20 } }).intake.laneB.state = .hunting ∧
      (after .settleCountExpiry { settled with intake :=
        { Intake.reset with settleCount := 2 ^ 20 } }).intake.laneB.state = .closed := by decide

/-! ### Event Former (Table 2-4) -/

/-- Steps 4 and 10: an earlier hit becomes the first member and moves the expiry; where that is not later than
now, the event closes at once. -/
theorem test_placement_first_member :
    (after .hitPlacement (placing 102300 [hit 4 99800]
        [event (hit 12 100200) [hit 13 100900, hit 20 102100]])).former.openSet.map
          (fun e => (e.first.time, e.rest.map (·.time), e.expiry)) =
        [(99800, [100200, 100900, 102100], 121800)] ∧
      (after .hitPlacement (placing 122000 [hit 6 99000] [event (hit 12 100250) []])).former.openSet = [] ∧
      (after .hitPlacement (placing 122000 [hit 6 99000] [event (hit 12 100250) []])).former.queue.map
          (fun e => (e.firstHit, e.members, e.early)) = [(99000, 2, false)] := by decide

/-- Step 9, where the set is full and E1 closes early; and step 11, LATE. -/
theorem test_placement_early_and_late :
    (after .hitPlacement (placing 118100 [hit 33 118000]
        [{ event (hit 4 99800) [] with expiry := 121800 }, event (hit 12 100250) [], event (hit 30 110000) [],
          event (hit 31 115000) []])).former.openSet.map (fun e => (e.first.time, e.expiry)) =
        [(100250, 122250), (110000, 132000), (115000, 137000), (118000, 140000)] ∧
      (after .hitPlacement (placing 118100 [hit 33 118000]
        [{ event (hit 4 99800) [] with expiry := 121800 }, event (hit 12 100250) [], event (hit 30 110000) [],
          event (hit 31 115000) []])).former.queue.map (fun e => (e.firstHit, e.early)) = [(99800, true)] ∧
      (after .hitPlacement (placing 122100 [hit 7 99500] [event (hit 30 110000) []])).former.lates = 1 := by
  decide

/-! ### Locator (3.9) -/

/-- The geometry and the sensors of Table 3-4. -/
def worked : State :=
  { listening with
    sensors := sensorsAt
      [(8, 2, 15), (11, 3, 14), (12, 3, 15), (13, 3, 0), (16, 4, 15), (40, 10, 0), (47, 10, 15)]
    params := { Params.reset with
      ringPos := (((Params.reset.ringPos.set 2 1200).set 3 1800).set 4 2400).set 10 6000
      colPos := ((Params.reset.colPos.set 14 3280).set 15 3500).set 0 220 } }

/-- One expired event, closed. -/
def closing (first : Descriptor) (rest : List Descriptor) (s : State) : Option (Quality × Nat × Nat × CellKey) :=
  ((after .eventExpiry { s with
      now := 1000000, former := { Former.reset with openSet := [event first rest] } }).former.queue.map
    fun e => (e.quality, e.z, e.x, e.cell)).head?

/-- Case 1, FULL across the reference generator; case 3, below zero at the far head. -/
theorem test_locations :
    closing (hit 12 5000) [hit 13 5300, hit 8 5800, hit 16 5900] worked =
        some (.full, 1620, 3700, { axial := 16, circ := 37 }) ∧
      closing (hit 40 5000) [hit 47 5100] worked =
        some (.circ, 6000, 3760, { axial := 59, circ := 37 }) := by decide

/-- Case 4, a FAULTED neighbour and a tie; case 5, ZONAL. -/
theorem test_locations_faulted :
    closing (hit 12 5000) [hit 13 5250, hit 8 5400, hit 16 5400, hit 11 5700]
        { worked with intake := { worked.intake with
            faults := worked.intake.faults.set 13 { faulted := true, code := 7 } } } =
        some (.full, 1560, 3495, { axial := 15, circ := 34 }) ∧
      closing (hit 12 5000) [] worked = some (.zonal, 1800, 3500, { axial := 18, circ := 35 }) := by decide

/-- Table 3-6: the axial offset at 0, 1, 1994, 1995 and 2002 ticks over a span of 600 mm. -/
theorem test_offsets :
    [0, 1, 800, 1994, 1995, 2002].map (offset 307 600) = [300, 299, 180, 1, 0, 0] := by decide

/-! ### Pressure (Table 4-4) -/

/-- The Monitor in a phase with a current pressure, within a run, PLIN having received two bytes of P. -/
def sampling (m : Monitor) (low high : Byte) : State :=
  { listening with
    now := 777, plin := { Plin.reset with state := .accepting [low, high] }, monitor := m }

/-- Steps 4 to 6: 118 stays in UNLOADING, and 121 begins cycle 2 with the prior peak 2600. -/
theorem test_sample_reload :
    let m : Monitor := { Monitor.reset with
      current := some 100, phase := .unloading, cyclePeak := 2600, trough := 100, holdIndex := 1 }
    (after (.plinDataCharacter (dataChar 1)) (sampling m 118 0)).monitor =
        { m with current := some 118, stamp := 777 } ∧
      (after (.plinDataCharacter (dataChar 1)) (sampling m 121 0)).monitor =
        { m with
          current := some 121, stamp := 777, phase := .loading, cycle := 2, cyclePeak := 121
          priorPeak := 2600, holdRef := 121 } := by decide

/-- Step 12: the fall from 3400 to 2700 is a rupture, and the phase becomes UNLOADING. -/
theorem test_sample_rupture :
    let m : Monitor := { Monitor.reset with
      current := some 3400, phase := .loading, cycle := 3, cyclePeak := 3400, priorPeak := 3000
      trough := 150, holdRef := 3400, holdIndex := 2 }
    (after (.plinDataCharacter (dataChar 1)) (sampling m 0x8C 0x0A)).monitor =
        { m with
          current := some 2700, stamp := 777, phase := .unloading, trough := 2700, cutoff := some 777 } ∧
      (after (.plinDataCharacter (dataChar 1)) (sampling m 0x8C 0x0A)).latches.rupture = true ∧
      (after (.plinDataCharacter (dataChar 1)) (sampling m 0x8C 0x0A)).run =
        { state := .frozen, flavour := some .rupture } := by decide

/-- PLIN takes the pressure kind alone (R65), and a character error leaves it HUNTING (R66). -/
theorem test_plin :
    (after (.plinHeader (makeCharacter true 0xC0)) listening).plin.state = .accepting [] ∧
      (after (.plinHeader (makeCharacter true 0x05)) listening).plin.state = .ignoring ∧
      (after (.plinHeader (makeCharacter true 0x05)) listening).plin.malformeds = 1 ∧
      (after (.plinCharacterError 0b100000001010) (sampling Monitor.reset 1 2)).plin.state = .hunting ∧
      (after (.plinCharacterError 0b100000001010) (sampling Monitor.reset 1 2)).plin.linkErrors = 1 := by
  decide

/-- Step 9: the timeout at 200,000 ticks and not before. -/
theorem test_sample_timeout :
    let m : Monitor := { Monitor.reset with
      current := some 3050, stamp := 1000, phase := .loading, cyclePeak := 3050, holdCount := 4 }
    (after .sampleTimeoutExpiry { listening with now := 201000, monitor := m }).monitor =
        { m with current := none, phase := .noPressure, holdCount := 0 } ∧
      (after .sampleTimeoutExpiry { listening with now := 201000, monitor := m }).latches.pressureStale =
        true ∧
      (after .sampleTimeoutExpiry { listening with now := 200999, monitor := m }).monitor = m := by decide

/-! ### Folds (6.11) -/

/-- The record (24, 9) after F3. -/
def afterF3 : SourceRecord :=
  { SourceRecord.ofFold { axial := 24, circ := 9 } 20 with
    others := [21], events := 3, fulls := 2, energySum := 1950, peakAmplitude := 84, highAmps := 1
    firstTime := some 50, lastTime := some 70, firstPressure := some 2300, onsetCycle := 1
    onsetPressure := some 2300, holdSeen := 1, holdCurrent := 2, holdTotal := 2, sinceSweep := 3 }

/-- The record (24, 9) after F6 and its CHANGES. -/
def afterF6 : SourceRecord :=
  { afterF3 with
    tracked := true, others := [21, 28], events := 6, fulls := 4, energySum := 3450, highAmps := 2
    onsetCycle := 2, onsetPressure := some 2650, felicity := some 1019, holdSeen := 2, holdCurrent := 1
    holdTotal := 4, sinceSweep := 6, met := { MetSet.empty with hold := true }, grade := 1 }

/-- F4 and F7 of Table 6-3. -/
def f4 : LocatedEvent := located { axial := 24, circ := 9 } 20 .full 66 300
  { pressure := some 2598, phase := .holding, cycle := 1, hold := 1, priorPeak := 0 }

def f7 : LocatedEvent := located { axial := 24, circ := 9 } 20 .full 75 1200
  { pressure := some 2760, phase := .loading, cycle := 3, hold := 2, priorPeak := 3000 }

/-- LISTENING with a queue and a table. -/
def folding (queue : List LocatedEvent) (slots : List (Nat × SourceRecord)) : State :=
  withTable slots { listening with former := { Former.reset with queue := queue } }

/-- F4 promotes the record and meets HOLD: grade 1, reported, zone 20 raised. -/
theorem test_fold_promotes :
    let s := after .fold (folding [f4] [(0, afterF3)])
    s.table.at? 0 = some { afterF3 with
      events := 4, fulls := 3, energySum := 2250, lastTime := some 100, holdCurrent := 3, holdTotal := 3
      sinceSweep := 4, tracked := true, met := { MetSet.empty with hold := true }, grade := 1
      report := true } ∧
      s.zones[20].live = 1 ∧ s.zones[20].building = 1 ∧ s.former.queue = [] ∧
      (after .operationCompletion s).alert = true := by decide

/-- R154: an event that a fold leaves unplaced is not in STATUS or COUNTERS until the fold's completion. -/
theorem test_unplaced_at_completion :
    let s := (folding [] []).beginGrant .fold true false |>.leaveUnplaced
    let t := after .operationCompletion s
    (s.statusReport.latches.tableFull, s.counterValues.getD 24 9, s.alert) = (false, 0, false) ∧
      (t.statusReport.latches.tableFull, t.counterValues.getD 24 9, t.alert) = (true, 1, true) := by decide

/-- F7 makes an onset of ratio 920: FELICITY, grade 2. A ZONAL event under ZONAL_FOLD 0 charges its zone. -/
theorem test_fold_onset_and_zonal :
    let s := after .fold (folding [f7] [(0, afterF6)])
    (s.table.at? 0).map (fun r => (r.felicity, r.met.felicity, r.grade, r.report)) =
        some (some 920, true, 2, true) ∧
      s.zones[20].live = 2 ∧
      (after .fold (folding [located { axial := 24, circ := 9 } 20 .zonal 66 300 noContext] [])
        ).zones[20].unlocated = 1 := by decide

/-- The example of chapter 12: the record after F7, byte by byte where it says so. -/
theorem test_record_bytes :
    let bytes := ((after .fold (folding [f7] [(0, afterF6)])).table.at? 0).elim [] SourceRecord.encode
    bytes.length = 56 ∧ bytes.take 11 = [24, 9, 0x11, 0x3E, 0, 0, 3, 20, 21, 28, 0xFF] ∧
      (bytes.drop 38).take 6 = [0x03, 0x00, 0xC8, 0x0A, 0x98, 0x03] ∧ bytes.drop 54 = [0x03, 0x02] := by
  decide

/-! ### Sweeps (Table 7-5, Table 7-6, Table 7-7) -/

/-- LISTENING with a pass owed, and a table. -/
def sweeping (backlog : Nat) (slots : List (Nat × SourceRecord)) : State :=
  withTable slots { listening with
    sweep := { listening.sweep with backlog := backlog }
    params := { Params.reset with retireIdle := 5 } }

/-- Table 7-5, pass 3: 158 - 19 + 50 = 189 meets ACTIVITY, a raise to grade 2. Table 7-6, pass 3: retired. -/
theorem test_visits :
    let s := after .sweepSlice (sweeping 1
      [(2, { graded { axial := 24, circ := 9 } 20 with activity := 158, sinceSweep := 25 }),
        (3, { nascent { axial := 40, circ := 11 } 33 with activity := 31, idleSweeps := 4 })])
    (s.table.at? 2).map (fun r => (r.activity, r.sinceSweep, r.grade, r.report)) = some (189, 0, 2, true) ∧
      s.zones[20].live = 2 ∧ s.zones[20].building = 2 ∧ s.table.at? 3 = none ∧ s.table.autoRetired = 0 ∧
      (after .operationCompletion s).table.autoRetired = 1 ∧ s.sweep.pass = true ∧
      s.sweep.cursor = 16 := by decide

/-- The slice that visits slot 1023 ends the pass, and its completion lowers the backlog (R137). An expiry at a
backlog of 14 is owed, and at 15 it is lost (R129). -/
theorem test_pass_end_and_expiry :
    let s := after .operationCompletion (after .sweepSlice { sweeping 2 [] with
      sweep := { listening.sweep with backlog := 2, pass := true, cursor := 1008 }
      zones := State.reset.zones.set 20 { live := 1, building := 2, unlocated := 3 } })
    let due := fun (n : Nat) => after .sweepTimerExpiry { listening with sweep :=
      { Sweep.reset with timer := some { elapsed := 100000, interval := 100000 }, backlog := n } }
    s.zones[20] = { live := 2, building := 0, unlocated := 0 } ∧ s.sweep.backlog = 1 ∧
      s.sweep.pass = false ∧ (due 14).sweep.backlog = 15 ∧ (due 15).sweep.backlog = 15 ∧
      (due 15).sweep.lost = 1 ∧ (due 15).latches.sweepLost = true := by decide +kernel

/-- Backlog 15, the last slice of a pass owed, and the timer run out. -/
def lastSliceDue : State := { listening with sweep :=
  { Sweep.reset with
    timer := some { elapsed := 100000, interval := 100000 }, backlog := 15, pass := true, cursor := 1008 } }

/-- A pass end and an expiry at a backlog of 15 (R129): the expiry first is lost, and the pass end then leaves 14;
the pass end first leaves 14, which the expiry raises to 15. -/
theorem test_pass_end_with_expiry :
    let first := after .operationCompletion (after .sweepSlice (after .sweepTimerExpiry lastSliceDue))
    let second := after .sweepTimerExpiry (after .operationCompletion (after .sweepSlice lastSliceDue))
    (first.sweep.backlog, first.sweep.lost, first.latches.sweepLost) = (14, 1, true) ∧
      (second.sweep.backlog, second.sweep.lost, second.latches.sweepLost) = (15, 0, false) := by
  decide +kernel

/-! ### Arbiter (Table 8-3) -/

/-- Backlog 5, an eligible entry, a LOOKUP waiting, STARVE_LIMIT 3. -/
def contending (policy starvation : Nat) (recency : List Requester) : State :=
  { folding [f4] [] with
    sweep := { listening.sweep with backlog := 5 }
    params := { Params.reset with policy := policy, starveLimit := 3 }
    arbiter := { Arbiter.reset with recency := recency, starvation := starvation }
    port := { Port.reset with
      request := some { hold := false, stage := .waiting (.lookup { axial := 0, circ := 0 }) } } }

/-- The seven choices of Table 8-3. -/
theorem test_grant_choices :
    (contending 1 0 [.port, .sweep, .fold]).grantChoice = some .fold ∧
      (contending 1 1 [.fold, .port, .sweep]).grantChoice = some .sweep ∧
      (contending 1 2 [.sweep, .fold, .port]).grantChoice = some .fold ∧
      (contending 1 3 [.fold, .sweep, .port]).grantChoice = some .port ∧
      (contending 0 0 [.port, .sweep, .fold]).grantChoice = some .fold ∧
      (contending 0 1 [.fold, .port, .sweep]).grantChoice = some .sweep ∧
      (contending 0 2 [.sweep, .fold, .port]).grantChoice = some .port := by decide

/-- What the grants leave: a fold counts the starvation of the port, a grant to PORT clears it. -/
theorem test_grants :
    (after .fold (contending 1 2 [.sweep, .fold, .port])).arbiter.starvation = 3 ∧
      (after .fold (contending 1 2 [.sweep, .fold, .port])).arbiter.recency = [.fold, .sweep, .port] ∧
      (after .portGrant (contending 1 3 [.fold, .sweep, .port])).arbiter.starvation = 0 ∧
      (after .portGrant (contending 1 3 [.fold, .sweep, .port])).arbiter.recency = [.port, .fold, .sweep] ∧
      after .sweepSlice (contending 1 3 [.fold, .sweep, .port]) = contending 1 3 [.fold, .sweep, .port] := by
  decide

/-- R144: a LOOKUP that finds the table idle is granted before an event that closes after it can bring FOLD; and a
STATUS taken while a fold is owed finds that fold in progress, its entry still in the depth reported (R154). -/
theorem test_granted_at_once :
    let s := { placing 22000 [] [event (hit 9 0) []] with
        arbiter := { Arbiter.reset with recency := [.port, .sweep, .fold] } }
    let t := after .eventExpiry (after (.lookup (frame 0x02 [1, 0])) s)
    t.arbiter.operation.map (·.requester) = some .port ∧ t.former.queue.length = 1 ∧ t.grantChoice = none ∧
      (after (.status (frame 0 [])) (folding [f4] [])).former.queue = [] ∧
      ((after (.status (frame 0 [])) (folding [f4] [])).arbiter.operation.map (·.requester)) = some .fold := by
  decide

/-- A part at 64 queue entries, the head owed its fold. -/
def queueFull (s : State) : State := { s with former := { s.former with queue := List.replicate 64 f4 } }

/-- A fold owed at 64 queue entries, and an open event at its expiry. -/
def fullQueueDue : State := queueFull (placing 24000 [] [event (hit 10 2000) []])

/-- An offer and a removal at 64 entries (R35): the offer first is dropped, the removal first makes room. -/
theorem test_offer_and_removal :
    let offer := after .fold (after .eventExpiry fullQueueDue)
    let removal := after .eventExpiry (after .fold fullQueueDue)
    (offer.former.queue.length, offer.former.eventDrops) = (63, 1) ∧
      (removal.former.queue.length, removal.former.eventDrops) = (64, 0) := by decide +kernel

/-- The lock held since a tick. -/
def locked (acquired now : Nat) (s : State) : State :=
  { s with now := now, arbiter := { s.arbiter with locked := true, acquired := acquired } }

/-- R149, R150: a LOOKUP with HOLD takes the lock whatever its answer, and a STATUS with HOLD clear ends it. -/
theorem test_lock :
    (served (.lookup (frame 0x03 [24, 9])) { listening with now := 500 }).arbiter.locked = true ∧
      (served (.lookup (frame 0x03 [24, 9])) { listening with now := 500 }).arbiter.acquired = 500 ∧
      answer (served (.lookup (frame 0x03 [24, 9])) listening) = some (.notFound, .none) ∧
      (after (.status (frame 0x01 [])) (locked 5 9 listening)).arbiter.locked = true ∧
      (after (.status (frame 0x00 [])) (locked 5 9 listening)).arbiter.locked = false := by decide

/-- R151: at 100,000 ticks and not before; with a PORT operation in progress the release waits for its
completion, whose response carries LOCK_LOST. -/
theorem test_lock_expiry :
    (after .lockExpiry (locked 7 100006 listening)).arbiter.locked = true ∧
      (after .lockExpiry (locked 7 100007 listening)).arbiter.locked = false ∧
      (after .lockExpiry (locked 7 100007 listening)).latches.lockBroken = true ∧
      ((after .operationCompletion (after .lockExpiry (locked 7 100007
        (after .portGrant (after (.lookup (frame 0x03 [24, 9])) listening))))).port.response.map
          (·.lockLost)) = some true := by decide

/-- R151, an expiry and the grant of a LOOKUP under the lock on one tick. The expiry taken first releases the lock,
and FOLD and SWEEP stand beside the LOOKUP again; at its grant with HOLD it acquires a new lock now. The grant taken
first makes the release wait. -/
theorem test_expiry_and_grant :
    let s := locked 7 100007 (contending 1 0 [.port, .sweep, .fold])
    let freed := after .lockExpiry s
    let holding := { settled with port := { Port.reset with
      request := some { hold := true, stage := .waiting (.lookup { axial := 0, circ := 0 }) } } }
    s.grantChoice = some .port ∧ freed.arbiter.locked = false ∧ freed.arbiter.lockLost = true ∧
      freed.grantChoice = some .fold ∧ (after .lockExpiry (after .portGrant s)).arbiter.breaking = true ∧
      (after .portGrant (after .lockExpiry (locked 7 100007 holding))).arbiter.locked = true ∧
      (after .portGrant (after .lockExpiry (locked 7 100007 holding))).arbiter.acquired = 100007 := by decide

/-! ### Run control (Table 4-4, Table 9-2) -/

/-- FREEZING with a pass in progress, which a lock keeps from its next slice. -/
def passLocked (flavour : Flavour) : State :=
  { inRun .freezing (some flavour) with
    sweep := { Sweep.reset with pass := true }, arbiter := { Arbiter.reset with locked := true } }

/-- The part in the six columns of Table 9-2. -/
def columns : List State :=
  [settled, listening, passLocked .requested, passLocked .rupture,
    inRun .frozen (some .requested), inRun .frozen (some .rupture)]

/-- The answer and the run that a request leaves in each column. -/
def row (c : Frame → Instr) : List (Option Status × RunState × Option Flavour) :=
  columns.map fun s =>
    let t := after (c (frame 0 [])) s
    (t.port.response.map (·.status), t.run.state, t.run.flavour)

theorem test_start_and_stop :
    row .start =
        [(some .ok, .listening, none), (some .state, .listening, none),
          (some .state, .freezing, some .requested), (some .state, .freezing, some .rupture),
          (some .state, .frozen, some .requested), (some .state, .frozen, some .rupture)] ∧
      row .stop =
        [(some .state, .setup, none), (some .ok, .setup, none), (some .ok, .setup, none),
          (some .ok, .setup, none), (some .ok, .setup, none), (some .ok, .setup, none)] ∧
      (after (.start (frame 0 [])) State.reset).port.response.map (·.status) = some .state := by decide

theorem test_freeze_thaw_engine_reset :
    row .freeze =
        [(some .state, .setup, none), (some .ok, .frozen, some .requested),
          (some .ok, .freezing, some .requested), (some .ok, .freezing, some .rupture),
          (some .ok, .frozen, some .requested), (some .ok, .frozen, some .rupture)] ∧
      row .thaw =
        [(some .state, .setup, none), (some .state, .listening, none), (some .ok, .listening, none),
          (some .state, .freezing, some .rupture), (some .ok, .listening, none),
          (some .state, .frozen, some .rupture)] ∧
      row .engineReset =
        [(some .ok, .setup, none), (some .ok, .listening, none), (some .ok, .frozen, some .requested),
          (some .ok, .frozen, some .rupture), (some .ok, .frozen, some .requested),
          (some .ok, .frozen, some .rupture)] := by decide

/-- Table 4-4, step 0; and a START clears the onset of every record and loads the timer (R103, R128). -/
theorem test_start_effects :
    let s := after (.start (frame 0 [])) (withTable [(4, { afterF6 with muted := true })] { settled with monitor :=
      { Monitor.reset with current := some 10, phase := .loading, cyclePeak := 40, cycle := 7, holdRef := 9 } })
    s.monitor = { Monitor.reset with current := some 10, phase := .loading, cyclePeak := 10, holdRef := 10 } ∧
      (s.table.at? 4).map (fun r => (r.onsetCycle, r.onsetPressure, r.holdSeen, r.holdTotal)) =
        some (0, none, 0, 4) ∧
      s.sweep.timer = some { elapsed := 0, interval := 10000000 } ∧ s.intake.laneA.state = .hunting := by
  decide

/-- A slice in progress. -/
def slice (endsPass : Bool) : Operation :=
  { requester := .sweep, liveBefore := 0, reportBefore := 0, tookEntry := false, endsPass := endsPass
    unplaced := false, evicted := false, autoRetired := 2 }

/-- Table 9-3, step 5: the drains end at the completion of the last slice, or of the last fold. -/
theorem test_drain_ends :
    (after .operationCompletion { inRun .freezing (some .requested) with
        sweep := { Sweep.reset with backlog := 1 }
        arbiter := { Arbiter.reset with operation := some (slice true) } }).run = { state := .frozen, flavour := some .requested } ∧
      (after .requestedDrainEnd (inRun .freezing (some .requested))).latches.frozenReached = true ∧
      (after .ruptureDrainEnd (inRun .freezing (some .rupture))).run.state = .frozen ∧
      (after .ruptureDrainEnd { inRun .freezing (some .rupture) with
        former := { Former.reset with openSet := [event (hit 5 100) []] } }).run.state = .freezing := by decide

/-- FROZEN for read-out at a moment, an entry held, and PLIN about to complete a falling sample. -/
def thawable (now : Nat) : State :=
  { sampling { Monitor.reset with current := some 1000, phase := .loading } 0xF4 0x01 with
    now := now
    run := { state := .frozen, flavour := some .requested }
    former := { Former.reset with queue := [{ f4 with held := true }] } }

/-- R162, R168: THAW first owes a fold, and the latch at the same moment purges a later entry before it, where one
at the cutoff stays and folds; the latch first makes THAW refused. -/
theorem test_thaw_and_rupture :
    let rupture := fun (s : State) => after (.plinDataCharacter (dataChar 1)) s
    let thaw := fun (s : State) => after (.thaw (frame 0 [])) s
    let late := rupture (thaw (thawable 99))
    (thaw (thawable 99)).grantChoice = some .fold ∧ late.former.queue = [] ∧ late.former.eventDrops = 1 ∧
      late.arbiter.operation = none ∧ late.run = { state := .frozen, flavour := some .rupture } ∧
      (rupture (thaw (thawable 100))).former.queue = [f4] ∧
      (rupture (thaw (thawable 100))).run = { state := .freezing, flavour := some .rupture } ∧
      (rupture (thaw (thawable 100))).grantChoice = some .fold ∧
      thaw (rupture (thawable 99)) = (rupture (thawable 99)).answered (frame 0 []) .state .none := by
  decide +kernel

/-- RESTART CHANNELS (R19): both lanes settle, CHRST is active, no channel is FAULTED. -/
theorem test_restart :
    let s := after (.restartChannels (frame 0 [])) { placing 0 [hit 5 1] [event (hit 9 1) []] with
      intake := { listening.intake with
        fifo := [hit 5 1], faults := listening.intake.faults.set 5 { faulted := true, code := 3 } } }
    s.chrst = true ∧ s.intake.laneA.state = .settling ∧ s.intake.fifo = [] ∧ s.former.openSet = [] ∧
      s.former.aborteds = 1 ∧ s.intake.faults[5] = { faulted := false, code := 0 } := by decide

/-! ### Annunciator (Table 10-2) -/

/-- Steps 3 and 5: the frame carries grade 1, U and F of zone 20, and then grade 1 and F. -/
theorem test_annunciator :
    let s := fun (unlocated : Nat) => after .annunciatorFrameStart { listening with
      intake := { listening.intake with
        faults := listening.intake.faults.set 20 { faulted := true, code := 3 } }
      zones := State.reset.zones.set 20 { live := 1, building := 1, unlocated := unlocated }
      annunciator := { timer := some { elapsed := 200000, interval := 200000 }, sending := none } }
    let character := fun (s : State) (i : Nat) => s.annunciator.sending.bind fun f => f.characters[i]?
    (character (s 1) 0).map receive = some (.header 0x02) ∧
      (character (s 1) 11).map receive = some (.data 0x0D) ∧
      (character (s 0) 11).map receive = some (.data 0x09) ∧ (s 1).anout = false ∧
      (s 1).annunciator.timer = some { elapsed := 0, interval := 200000 } := by decide

/-- A frame start and a fold that raises zone 20 (R173, R170): either may be taken first. -/
theorem test_frame_start_and_fold :
    let s := { folding [f4] [(0, afterF3)] with
      annunciator := { timer := some { elapsed := 200000, interval := 200000 }, sending := none } }
    let pair := fun (s : State) => (s.annunciator.sending.bind fun f => f.characters[11]?).map receive
    pair (after .annunciatorFrameStart s) = some (.data 0) ∧
      pair (after .annunciatorFrameStart (after .fold s)) = some (.data 1) := by decide +kernel

/-- ANOUT idles at 1; the header 0x02 begins with a start bit of 0, data bit 0 of 0 and data bit 1 of 1, of 2.5
ticks each (R173, R191). -/
theorem test_anout :
    let sending := fun (n : Nat) => { listening with annunciator :=
      { timer := none, sending := some { characters := listening.frameCharacters, ticks := n } } }
    listening.anout = true ∧
      [0, 1, 3, 4, 5, 6].map (fun n => (sending n).anout) = [false, false, false, false, true, true] := by
  decide +kernel

/-! ### Command Port (Table 11-5, chapter 12) -/

/-- The six records of Table 5-2. -/
def sixRecords : List (Nat × SourceRecord) :=
  [(0, nascent { axial := 0, circ := 37 } 5), (3, graded { axial := 0, circ := 5 } 5),
    (4, graded { axial := 1, circ := 0 } 5), (9, graded { axial := 1, circ := 12 } 5),
    (17, nascent { axial := 12, circ := 3 } 5), (211, graded { axial := 59, circ := 37 } 5)]

/-- The keys of a SCAN response, MORE and the continuation. -/
def scanned (s : State) : Option (List (Nat × Nat) × Bool × Option CellKey) :=
  match answer s with
  | some (.ok, .scan records more next) =>
    some (records.map fun r => (r.key.axial, r.key.circ), more, next)
  | _ => none

/-- Steps 1 and 4. -/
theorem test_scan :
    scanned (served (.scan (frame 0 [0x00, 1, 0])) (withTable sixRecords settled)) =
        some ([(0, 5), (1, 0), (1, 12), (59, 37)], false, none) ∧
      scanned (served (.scan (frame 0x02 [0, 6, 0, 1])) (withTable sixRecords settled)) =
        some ([(0, 37), (1, 0), (1, 12), (12, 3), (59, 37)], false, none) ∧
      sixRecords.map (fun e => Params.reset.successor e.2.key) =
        [some { axial := 1, circ := 0 }, some { axial := 0, circ := 6 }, some { axial := 1, circ := 1 },
          some { axial := 1, circ := 13 }, some { axial := 12, circ := 4 }, none] := by decide

/-- A response of one byte of status and no payload. -/
def answeredOk (s : State) : State :=
  { s with port := { s.port with response := some { status := .ok, lockLost := false, payload := .none } } }

/-- Steps 2, 3 and 5: a request before the read collides, the read shows COLLIDED, and an abandoned read keeps
the response. -/
theorem test_collision_and_read :
    let s := after (.lookup (frame 0x02 [1, 0])) (answeredOk settled)
    s.port.collision = true ∧ s.port.request = none ∧
      (after (.responseRead (reading 6 false)) s).port.sdo = [0xFF, 0x00, 0x02, 0x00, 0x00, 0xFF] ∧
      (after (.responseRead (reading 5 false)) s).port.response = none ∧
      (after (.responseRead (reading 5 false)) s).port.collision = false ∧
      (after (.responseRead (reading 5 false)) s).ready = false ∧
      (after (.responseRead (reading 4 false)) s).ready = true := by decide

/-- R179: a frame that overtakes the end of a read that completes loses its COLLIDED report; one that overtakes
a read cut short keeps it for the next read. -/
theorem test_overtaken_read :
    let s := answeredOk settled
    (after (.responseRead (reading 5 true)) s).port.sdo = [0xFF, 0x00, 0x00, 0x00, 0x00] ∧
      (after (.responseRead (reading 5 true)) s).port.response = none ∧
      (after (.responseRead (reading 5 true)) s).port.collision = false ∧
      (after (.responseRead (reading 5 false)) (after (.responseRead (reading 4 true)) s)).port.sdo =
        [0xFF, 0x00, 0x02, 0x00, 0x00] := by decide

/-- Table 12-10 after RESET: 23 bytes, cycle index 1. A STATUS clears the latches it reports (R182). -/
theorem test_status :
    (match answer (after (.status (frame 0 [])) State.reset) with
      | some (.ok, p) => p.encode
      | _ => []) =
        [0, 0, 1, 1] ++ List.replicate 10 0 ++ [1] ++ List.replicate 8 0 ∧
      (after (.status (frame 0 [])) (after .requestedDrainEnd
        (inRun .freezing (some .requested)))).latches.any = false := by decide

/-- 28 counters in the order of Table 11-3, cleared under CLEAR. -/
theorem test_counters :
    let s := { listening with
      former := { Former.reset with lates := 9 }, table := { SourceTable.reset with evicted := 5 }
      plin := { Plin.reset with linkErrors := 1, fragments := 2, malformeds := 3 }
      sweep := { listening.sweep with lost := 4 } }
    answer (after (.counters (frame 0 [])) s) = some (.ok, .counters
        (List.replicate 8 0 ++ [1, 2, 3] ++ List.replicate 5 0 ++ [9] ++ List.replicate 9 0 ++ [5, 4])) ∧
      (after (.counters (frame 0 [])) s).former.lates = 9 ∧
      (after (.counters (frame 0x04 [])) s).counterValues = List.replicate 28 0 := by decide

/-- VEL is 307 after RESET; a write is clamped to its range and answered ADJUSTED (R185). -/
theorem test_config :
    (match answer (after (.configRead (frame 0 [0x04])) State.reset) with
      | some (.ok, p) => p.encode
      | _ => []) = [0x04, 0x33, 0x01] ∧
      answer (after (.configRead (frame 0 [0x40])) State.reset) = some (.badRequest, .none) ∧
      answer (after (.configWrite (frame 0 [0x04, 31, 0])) State.reset) =
        some (.adjusted, .config .vel 32) ∧
      (after (.configWrite (frame 0 [0x04, 0xFF, 0x03])) State.reset).params.vel = 1023 := by decide

/-- Table 3-8, row 3, and the LENGTH write after it: the grid minimum raises CELL. -/
theorem test_geometry :
    let s := served (.geometryWrite 0 .cell 40) { State.reset with params :=
      { Params.reset with length := 12000, circ := 9425 } }
    answer s = some (.adjusted, .config (.geometry .cell) 47) ∧ s.params.na = 256 ∧ s.params.nc = 201 ∧
      answer (served (.geometryWrite 0 .length 30000) (withTable sixRecords State.reset)) =
        some (.adjusted, .config (.geometry .length) 30000) ∧
      (served (.geometryWrite 0 .length 30000) (withTable sixRecords State.reset)).params.cell = 118 ∧
      (served (.geometryWrite 0 .length 30000) (withTable sixRecords State.reset)).table.slots = [] ∧
      answer (after (.geometryWrite 0 .cell 100) listening) = some (.state, .none) := by decide +kernel

/-- The writes with an effect of their own (R69, R151, R174). -/
theorem test_own_writes :
    (after (.sampleTimeoutWrite 0 0) { listening with
        now := 10000, monitor := { Monitor.reset with current := some 5, phase := .loading } }).monitor.current =
        none ∧
      ((after (.lockLimitWrite 1 1) (locked 0 1000 listening)).port.response.map (·.lockLost)) = some true ∧
      (after (.annEnableWrite 0 0) listening).annunciator.timer = none ∧
      answer (after (.annEnableWrite 0 7) listening) = some (.adjusted, .config .annEnable 1) := by decide

/-- SENSOR READ and SENSOR WRITE (R52, R186). -/
theorem test_sensors :
    answer (after (.sensorRead (frame 0 [9])) settled) =
        some (.ok, .sensor 9 { ring := 1, column := 2, enabled := true } { faulted := false, code := 0 }) ∧
      answer (after (.sensorRead (frame 0 [64])) settled) = some (.badRequest, .none) ∧
      answer (after (.sensorWrite (frame 0 [7, 1, 2, 1])) settled) = some (.conflict, .none) ∧
      (served (.sensorWrite (frame 0 [7, 1, 3, 1])) settled).sensors[7] =
        { ring := 1, column := 3, enabled := true } ∧
      answer (after (.sensorWrite (frame 0 [7, 16, 3, 1])) settled) = some (.badRequest, .none) := by decide

/-- Table 11-5, step 7, and a long form inside and outside the grid (R181). -/
theorem test_set_view :
    answer (after (.setView (frame 0 [0x11])) State.reset) =
        some (.ignored, .view { axial := 0, circ := 0 }) ∧
      (after (.setView (frame 0x02 [59, 37])) State.reset).port.view = { axial := 59, circ := 37 } ∧
      answer (after (.setView (frame 0x02 [60, 0])) State.reset) = some (.outOfGrid, .none) := by decide

/-- LOOKUP by a short reference from a view base, round the shell (R180): (59, 36) and offsets 0 and 1. -/
theorem test_lookup :
    answer (served (.lookup (frame 0 [0x01])) (withTable sixRecords
        { settled with port := { Port.reset with view := { axial := 59, circ := 36 } } })) =
        some (.ok, .record (graded { axial := 59, circ := 37 } 5)) ∧
      answer (served (.lookup (frame 0x02 [2, 2])) (withTable sixRecords settled)) = some (.notFound, .none) ∧
      answer (after (.lookup (frame 0 [0x10])) { settled with port :=
        { Port.reset with view := { axial := 59, circ := 36 } } }) = some (.outOfGrid, .none) := by decide

/-- CHANGES returns the reported records and clears their flags; ALERT falls (R183, R190). -/
theorem test_changes :
    let r := { graded { axial := 1, circ := 0 } 5 with report := true }
    let s := served (.changes (frame 0 [])) (withTable [(3, graded { axial := 0, circ := 5 } 5), (4, r)] settled)
    answer s = some (.ok, .changes [r] false) ∧ s.table.at? 4 = some (graded { axial := 1, circ := 0 } 5) ∧
      s.alert = false := by decide

/-- SEED takes the lowest free slot; a live key answers EXISTS (R83, R96). -/
theorem test_seed :
    let s := served (.seed (frame 0x02 [2, 2, 0x34, 0x12, 9])) (withTable sixRecords settled)
    (s.table.at? 1).map (fun r => (r.label, r.tracked, r.pinned, r.seeded, r.home)) =
        some (some 0x1234, true, true, true, 9) ∧
      answer (served (.seed (frame 0x02 [1, 0, 0, 0, 9])) (withTable sixRecords settled)) =
        some (.exists, .none) ∧
      answer (after (.seed (frame 0x02 [2, 2, 0, 0, 64])) settled) = some (.badRequest, .none) := by decide

/-- Table 6-5: the record muted at grade 3 is unmuted, reported, and its zone goes from 2 to 3. -/
theorem test_mark :
    let r := { graded { axial := 24, circ := 9 } 20 with
      muted := true, met := { felicity := true, hold := true, activity := false, intensity := true }
      grade := 3 }
    let s := served (.mark (frame 0x02 [24, 9, 0x02])) { withTable [(0, r)] settled with
      zones := State.reset.zones.set 20 { live := 2, building := 2, unlocated := 0 } }
    s.table.at? 0 = some { r with muted := false, report := true } ∧
      s.zones[20] = { live := 3, building := 3, unlocated := 0 } ∧
      answer (after (.mark (frame 0x02 [24, 9, 0x03])) settled) = some (.badRequest, .none) := by decide

/-- Table 6-5, CLEAR STATS: state and channel list stay, the rest goes back. RETIRE frees the slot (R98). -/
theorem test_clear_and_retire :
    (served (.clearStats (frame 0x02 [24, 9])) (withTable [(0, afterF6)] settled)).table.at? 0 =
        some { nascent { axial := 24, circ := 9 } 20 with tracked := true, others := [21, 28] } ∧
      answer (served (.retire (frame 0x02 [24, 9])) (withTable [(0, afterF6)] settled)) =
        some (.ok, .record afterF6) ∧
      (served (.retire (frame 0x02 [24, 9])) (withTable [(0, afterF6)] settled)).table.slots = [] := by decide

/-- A frame with an unknown code is answered BAD_REQUEST (R176). -/
theorem test_unknown :
    answer (after (.unknownRequestCode [0x07, 0, 0]) settled) = some (.badRequest, .none) := by decide

/-! ### The queue -/

/-- A step takes the front of the queue; on an empty queue a tick passes, or a grant that is owed is queued (log
entries 1 and 2). -/
theorem test_step :
    step { listening with pending := [.mergeServe, .reset] } =
        .next { listening with pending := [.reset] } ∧
      step listening = .next (State.tick listening) ∧
      step (folding [f4] []) = .next { folding [f4] [] with pending := [.fold] } := ⟨rfl, rfl, rfl⟩

/-! ### Witnesses: for each obligation with premises, a state and operands that meet them, clause by clause -/

theorem test_witness_StepTakesFront :
    { listening with pending := [.mergeServe, .reset] }.pending = .mergeServe :: [.reset] := rfl

theorem test_witness_ResetRestartsThePart :
    (after .reset listening).resetAsserted = true ∧ listening.tbclkRuns = true ∧ Instr.mergeServe ≠ .reset ∧
      Instr.mergeServe ≠ .resetnRelease := by decide

/-- The last low tick of epoch 2, in each settle phase, with and without running timers and a frame being sent;
the tick before it, and the last low tick, with nothing due and an empty queue; each expiry due; and each grant
owed. -/
theorem test_witness_TimebaseCounts :
    let x : Timer := { elapsed := 200000, interval := 200000 }
    let clocked := fun (s : State) (now : Nat) => { s with now := now }
    (∀ s ∈ [State.reset, settled, listening,
        { listening with intake := { Intake.reset with phase := .restart } },
        { listening with annunciator := { timer := none, sending := some { characters := [], ticks := 988 } } },
        { listening with annunciator := { timer := none, sending := some { characters := [], ticks := 989 } } }],
      let t := clocked s (3 * 2 ^ 32 - 1)
      t.resetAsserted = false ∧ t.now % 2 ^ 32 = 2 ^ 32 - 1 ∧ t.grantChoice = none ∧ t.pending = [] ∧
        t.dueExpiries = []) ∧
      (let t := clocked listening (3 * 2 ^ 32 - 2);
        t.resetAsserted = false ∧ t.grantChoice = none ∧ t.pending = [] ∧ t.dueExpiries = [] ∧
          t.now % 2 ^ 32 ≠ 2 ^ 32 - 1) ∧
      (∀ e ∈ [({ listening with intake := { Intake.reset with phase := .restart, restartCount := 5120 } },
            [Instr.restartCountExpiry]),
          ({ listening with intake := { Intake.reset with settleCount := 2 ^ 20 } }, [.settleCountExpiry]),
          ({ listening with now := 200000, monitor := { Monitor.reset with current := some 5 } },
            [.sampleTimeoutExpiry]),
          (placing 22000 [] [event (hit 9 0) []], [.eventExpiry]),
          ({ listening with sweep := { Sweep.reset with timer := some x } }, [.sweepTimerExpiry]),
          (locked 0 100000 listening, [.lockExpiry]),
          ({ listening with annunciator := { timer := some x, sending := none } },
            [.annunciatorFrameStart])],
        e.1.resetAsserted = false ∧ e.1.grantChoice = none ∧ e.1.pending = [] ∧ e.1.dueExpiries = e.2) ∧
      (∀ e ∈ [(folding [f4] [], Requester.fold), (sweeping 3 [], .sweep),
          (contending 1 3 [.fold, .sweep, .port], .port)],
        e.1.resetAsserted = false ∧ e.1.pending = [] ∧ e.1.grantChoice = some e.2) := by decide +kernel

/-- The characters of the witnesses below, as a sender sends them. -/
theorem test_carries :
    (∀ b ∈ [(0x05 : Byte), 0x45, 0x80, 0xC0], Carries true b (makeCharacter true b)) ∧
      ∀ b ∈ [(0 : Byte), 1, 5, 40], Carries false b (dataChar b) := by
  constructor <;> intro b hb <;> simp only [List.mem_cons, List.not_mem_nil, or_false] at hb <;>
    rcases hb with rfl | rfl | rfl | rfl <;>
    exact ⟨by decide, by decide, by decide, by decide, by decide⟩

/-- A header of each kind, on an open lane with and without a frame in progress; an accepted channel, and one
that is not. -/
theorem test_witness_HeaderTaken :
    (∀ b ∈ [(0x05 : Byte), 0x45, 0x80, 0xC0], Carries true b (makeCharacter true b)) ∧
      ([0x05, 0x45, 0x80, 0xC0].map fun (b : Byte) => b.toNat / 64) = [0, 1, 2, 3] ∧
      listening.steady = true ∧ (listening.intake.lane .a).state.isOpen = true ∧
      listening.accepted 5 = true ∧ ({ listening with sensors := sensorsAt [] }).accepted 5 = false ∧
      (onLaneA { kind := .hit, channel := 5, bytes := [] } listening).steady = true :=
  ⟨test_carries.1, by decide⟩

/-- The last data byte but one of a hit frame, and a lane that hunts; and 12 ones. -/
theorem test_witness_DataCharacterTaken :
    let fr : LaneFrame := { kind := .hit, channel := 5, bytes := List.replicate 8 0 }
    Carries false 5 (dataChar 5) ∧ (0xFFF : Character).getLsbD 0 = true ∧ (onLaneA fr listening).steady = true ∧
      ((onLaneA fr listening).intake.lane .a).state = .accepting fr ∧ fr.bytes.length + 1 < 10 ∧
      (listening.intake.lane .b).state = .hunting :=
  ⟨test_carries.2 5 (by decide), by decide⟩

/-- The frame of `lastByte`, taken as far as its last byte. -/
def lastFrame (time : List Byte) : LaneFrame :=
  { kind := .hit, channel := 5, bytes := time ++ [112, 7, 0, 0x36, 0x01] }

/-- D at 10,000 and one above it, and N + D at 0 and one below it; a duration of 310 in and out of the
limits; a channel that is not enabled. -/
theorem test_witness_HitFrameCompletes :
    Carries false 40 (dataChar 40) ∧
    (∀ x ∈ [(0, [0x10, 0x27, 0, 0], (10000 : Int)), (0, [0x11, 0x27, 0, 0], 10001),
        (500, [0, 0, 0, 0], -500), (500, [0xFF, 0xFF, 0xFF, 0xFF], -501)],
      let s := lastByte x.1 x.2.1
      s.steady = true ∧ (s.intake.lane .a).state = .accepting (lastFrame x.2.1) ∧ (lastFrame x.2.1).kind = .hit ∧
        (lastFrame x.2.1).bytes.length = 9 ∧ -2 ^ 31 ≤ x.2.2 ∧ x.2.2 < 2 ^ 31 ∧
        ((s.now : Int) + x.2.2) % 2 ^ 32 = bytesToNat ((lastFrame x.2.1).bytes.take 4) ∧
        s.accepted 5 = true ∧ (s.intake.lane .a).slot = none ∧ s.params.minDuration ≤ 310 ∧
        310 ≤ s.params.maxDuration ∧ 40 ≤ s.params.maxRise) ∧
      ({ lastByte 0 [0, 0, 0, 0] with params := { Params.reset with maxDuration := 309 } }
        ).params.maxDuration < 310 ∧
      ({ lastByte 0 [0, 0, 0, 0] with sensors := sensorsAt [] }).accepted 5 = false :=
  ⟨test_carries.2 40 (by decide), by decide +kernel⟩

theorem test_witness_FaultFrameTaken :
    let fr : LaneFrame := { kind := .fault, channel := 5, bytes := [] }
    Carries false 1 (dataChar 1) ∧ Carries false 0 (dataChar 0) ∧ (onLaneA fr listening).steady = true ∧
      ((onLaneA fr listening).intake.lane .a).state = .accepting fr ∧
      (onLaneA fr listening).accepted 5 = true ∧
      ({ onLaneA fr listening with sensors := sensorsAt [] }).accepted 5 = false :=
  ⟨test_carries.2 1 (by decide), test_carries.2 0 (by decide), by decide +kernel⟩

/-- A character with a wrong parity bit, and one with a stop bit of 0. -/
theorem test_witness_CharacterErrorTaken :
    Faulty 0b111000001010 ∧ Faulty 0b001000001010 ∧
      listening.steady = true ∧ settled.steady = true ∧ State.reset.steady = true ∧
      (listening.intake.lane .a).state.isOpen = true ∧ (settled.intake.lane .a).state = .closed ∧
      (State.reset.intake.lane .a).state = .settling := by
  unfold Faulty
  decide

theorem test_witness_MergeServes :
    ∀ n ∈ [31, 32], (serving n).steady = true ∧
      ((serving n).intake.lane .a).slot = some (hit 5 100) ∧ ((serving n).intake.lane .b).slot = none ∧
      (serving n).intake.fifo.length = n := by decide

theorem test_witness_RestartAndSettleEnd :
    let restarting := { listening with intake := { Intake.reset with phase := .restart, restartCount := 5120 } }
    let settling := { listening with intake := { Intake.reset with settleCount := 2 ^ 20 } }
    restarting.steady = true ∧ restarting.intake.phase = .restart ∧
      5120 ≤ restarting.intake.restartCount ∧ settling.steady = true ∧ settling.intake.phase = .settle ∧
      2 ^ 20 ≤ settling.intake.settleCount := by decide

/-- Three open events 2001 ticks away, and the last tick at which the new event would not have expired. -/
theorem test_witness_HitOpensEvent :
    let s := placing 26999 [hit 5 5000] [event (hit 9 2999) [], event (hit 9 7001) [], event (hit 9 9000) []]
    s.resetAsserted = false ∧ s.grantChoice = none ∧ (queueFull s).grantChoice = some .fold ∧
      64 ≤ (queueFull s).former.queue.length ∧ s.intake.fifo = [hit 5 5000] ∧
      s.beforeCutoff (hit 5 5000) = true ∧
      (∀ e ∈ s.former.openSet, isCandidate s.params.w (hit 5 5000) e = false) ∧
      s.now < 5000 + s.params.w + s.params.settle ∧ s.former.openSet.length < 4 := by decide

/-- Seven hits of other channels after a first one of channel 9. -/
def members (n : Nat) (first : Nat) : OpenEvent :=
  event (hit 9 first) ((List.range n).map fun i => hit (Fin.ofNat 64 (20 + i)) (first + 10 * i))

/-- A hit into an event of seven members, 2000 ticks after its first, and one 2000 ticks before it, with the
new expiry one tick ahead and reached. -/
theorem test_witness_HitJoinsEvent :
    (let s := placing 6000 [hit 5 6000] [members 6 4000];
      s.resetAsserted = false ∧ s.grantChoice = none ∧ (queueFull s).grantChoice = some .fold ∧
        64 ≤ (queueFull s).former.queue.length ∧ s.intake.fifo = [hit 5 6000] ∧
        s.beforeCutoff (hit 5 6000) = true ∧ s.Chosen (hit 5 6000) 0 (members 6 4000) ∧
        (members 6 4000).rest.length + 1 < 8 ∧
        (members 6 4000).rest = (members 6 4000).rest ++ [] ∧ (members 6 4000).first.time ≤ 6000 ∧
        (∀ m ∈ (members 6 4000).rest, m.time ≤ 6000)) ∧
      (∀ now ∈ [23999, 24000],
        let s := placing now [hit 5 2000] [members 6 4000]
        s.resetAsserted = false ∧ s.grantChoice = none ∧ (queueFull s).grantChoice = some .fold ∧
          64 ≤ (queueFull s).former.queue.length ∧ s.intake.fifo = [hit 5 2000] ∧
          s.beforeCutoff (hit 5 2000) = true ∧ s.Chosen (hit 5 2000) 0 (members 6 4000) ∧
          2000 < (members 6 4000).first.time) ∧
      2000 + Params.reset.w + Params.reset.settle = 24000 := by
  unfold State.Chosen
  decide +kernel

theorem test_witness_FullEventTurnsHitAway :
    let s := placing 6000 [hit 5 6000] [members 7 4000]
    s.resetAsserted = false ∧ s.grantChoice = none ∧ (queueFull s).grantChoice = some .fold ∧
      64 ≤ (queueFull s).former.queue.length ∧ s.intake.fifo = [hit 5 6000] ∧
      s.beforeCutoff (hit 5 6000) = true ∧ s.Chosen (hit 5 6000) 0 (members 7 4000) ∧
      8 ≤ (members 7 4000).rest.length + 1 := by
  unfold State.Chosen
  decide +kernel

/-- FREEZING with the RUPTURE flavour, a slice in progress, the cutoff one tick before the hit. -/
def ruptured : State :=
  { placing 7000 [hit 5 6001] [] with
    run := { state := .freezing, flavour := some .rupture }
    monitor := { Monitor.reset with cutoff := some 6000 }
    sweep := { Sweep.reset with backlog := 1 }
    arbiter := { Arbiter.reset with operation := some (slice false) } }

theorem test_runLaw_ruptured : RunLaw ruptured where
  flavour := by decide
  timer := by decide
  swept := by decide
  empty := by decide
  laneA := by unfold laneFits; decide
  laneB := by unfold laneFits; decide
  marksLast := by decide
  unmarked := by decide
  requested := by decide
  rupture := by decide

theorem test_runLaw_placing : RunLaw (placing 28000 [hit 5 6000] []) where
  flavour := by decide
  timer := by decide
  swept := by decide
  empty := by decide
  laneA := by unfold laneFits; decide
  laneB := by unfold laneFits; decide
  marksLast := by decide
  unmarked := by decide
  requested := by decide
  rupture := by decide

theorem test_runLaw_queueFull : RunLaw (queueFull (placing 28000 [hit 5 6000] [])) where
  flavour := by decide
  timer := by decide
  swept := by decide
  empty := by decide
  laneA := by unfold laneFits; decide
  laneB := by unfold laneFits; decide
  marksLast := by decide
  unmarked := by decide +kernel
  requested := by decide
  rupture := by decide

/-- A hit one tick after the cutoff, and one whose event would just have expired. -/
theorem test_witness_HitDiscarded :
    RunLaw ruptured ∧ ruptured.resetAsserted = false ∧ ruptured.grantChoice = none ∧
      ruptured.intake.fifo = [hit 5 6001] ∧
      ruptured.beforeCutoff (hit 5 6001) = false ∧ RunLaw (placing 28000 [hit 5 6000] []) ∧
      (placing 28000 [hit 5 6000] []).resetAsserted = false ∧ (placing 28000 [hit 5 6000] []).grantChoice = none ∧
      (placing 28000 [hit 5 6000] []).beforeCutoff (hit 5 6000) = true ∧
      (placing 28000 [hit 5 6000] []).former.openSet = [] ∧
      6000 + Params.reset.w + Params.reset.settle ≤ 28000 ∧ RunLaw (queueFull (placing 28000 [hit 5 6000] [])) ∧
      (queueFull (placing 28000 [hit 5 6000] [])).grantChoice = some .fold ∧
      64 ≤ (queueFull (placing 28000 [hit 5 6000] [])).former.queue.length :=
  ⟨test_runLaw_ruptured, by decide, by decide, by decide, by decide, test_runLaw_placing, by decide, by decide,
    by decide, by decide, by decide, test_runLaw_queueFull, by decide, by decide⟩

/-- Four open events, the first two of one expiry. -/
theorem test_witness_EarlyCloseMakesRoom :
    let s := placing 31999 [hit 5 10000]
      [event (hit 9 2000) [], event (hit 10 2000) [], event (hit 9 5000) [], event (hit 9 7999) []]
    s.resetAsserted = false ∧ s.grantChoice = none ∧ (queueFull s).grantChoice = some .fold ∧
      64 ≤ (queueFull s).former.queue.length ∧ s.intake.fifo = [hit 5 10000] ∧
      s.beforeCutoff (hit 5 10000) = true ∧
      (∀ q ∈ s.former.openSet, isCandidate s.params.w (hit 5 10000) q = false) ∧
      s.now < 10000 + s.params.w + s.params.settle ∧ s.former.openSet.length = 4 ∧
      s.former.openSet[0]? = some (event (hit 9 2000) []) ∧
      (∀ j, ∀ h : j < s.former.openSet.length, 24000 < s.former.openSet[j].expiry ∨
        (24000 = s.former.openSet[j].expiry ∧ 0 ≤ j)) := by decide +kernel

theorem test_witness_ExpiredEventCloses :
    let s := placing 24000 [] [event (hit 9 2001) [], event (hit 10 2000) []]
    s.resetAsserted = false ∧ s.grantChoice = none ∧ s.former.openSet[1]? = some (event (hit 10 2000) []) ∧
      (event (hit 10 2000) []).expiry ≤ s.now ∧
      (∀ j, ∀ h : j < s.former.openSet.length, j < 1 → s.now < s.former.openSet[j].expiry) ∧
      64 ≤ fullQueueDue.former.queue.length ∧ fullQueueDue.resetAsserted = false ∧
      fullQueueDue.former.openSet[0]? = some (event (hit 10 2000) []) ∧
      (event (hit 10 2000) []).expiry ≤ fullQueueDue.now := by
  decide +kernel

/-- The parameters after RESET lie in their ranges. -/
theorem test_paramLaw_reset : ParamLaw Params.reset := by
  intro q
  cases q with
  | geometry g =>
    cases g with
    | ringPos r =>
      revert r
      decide
    | colPos k =>
      revert k
      decide
    | _ => decide
  | _ => decide

/-- The parameters of Table 3-4 lie in their ranges. -/
theorem test_paramLaw_worked : ParamLaw worked.params := by
  intro q
  cases q with
  | geometry g =>
    cases g with
    | ringPos r =>
      revert r
      decide
    | colPos k =>
      revert k
      decide
    | _ => decide
  | _ => decide

theorem test_witness_LocationInsideGrid : ParamLaw listening.params ∧ ParamLaw worked.params :=
  ⟨test_paramLaw_reset, test_paramLaw_worked⟩

theorem test_witness_PlinCharacterTaken :
    (∀ b ∈ [(0x05 : Byte), 0x45, 0x80, 0xC0], Carries true b (makeCharacter true b)) ∧
      Carries false 5 (dataChar 5) ∧ Faulty 0b111000001010 ∧ (0xFFF : Character).getLsbD 0 = true ∧
      listening.steady = true ∧ listening.plin.state = .hunting ∧
      ({ listening with plin := { Plin.reset with state := .accepting [7] } }).steady = true ∧
      ({ listening with plin := { Plin.reset with state := .accepting [7] } }).plin.state =
        .accepting [7] :=
  ⟨test_carries.1, test_carries.2 5 (by decide), by unfold Faulty; decide, by decide⟩

/-- An invalid sample, and a valid one 499 below the current pressure. -/
theorem test_witness_SampleTaken :
    let s := sampling { Monitor.reset with current := some 1000, phase := .loading } 0xF5 0x01
    Carries false 0 (dataChar 0) ∧ Carries false 1 (dataChar 1) ∧ s.steady = true ∧
      s.plin.state = .accepting [0xF5, 0x01] ∧ (0 : Byte).getLsbD 0 = false ∧ (1 : Byte).getLsbD 0 = true ∧
      s.monitor.current = some 1000 ∧ 1000 < 501 + s.params.ruptureDrop :=
  ⟨test_carries.2 0 (by decide), test_carries.2 1 (by decide), by decide⟩

/-- A peak of 100 and the defaults: the fall of 50 unloads at 50 and not at 51; the band is 5 wide; the
sample after 1999 in the band holds; the rise of 20 over the trough reloads. -/
theorem test_witness_PhaseRules :
    let m : Monitor := { Monitor.reset with cyclePeak := 100, trough := 30, holdRef := 80 }
    let q := Params.reset
    (50 : Int) ≤ (m.cyclePeak : Int) - q.unloadDelta ∧ ¬(51 : Int) ≤ (m.cyclePeak : Int) - q.unloadDelta ∧
      ((85 : Int) - m.holdRef).natAbs ≤ q.holdBand ∧ ¬((86 : Int) - m.holdRef).natAbs ≤ q.holdBand ∧
      1998 + 1 < q.holdSamples ∧ q.holdSamples ≤ 1999 + 1 ∧ min m.trough 50 + q.reloadDelta ≤ 50 ∧
      49 < min m.trough 49 + q.reloadDelta := by decide

/-- A fall from the rupture floor by the rupture drop, and one where a fold is owed. -/
theorem test_witness_RuptureLatched :
    let s := sampling { Monitor.reset with current := some 1000, phase := .loading } 0xF4 0x01
    let owed := { s with former := { Former.reset with queue := [f4] } }
    Carries false 1 (dataChar 1) ∧ s.resetAsserted = false ∧ s.grantChoice = none ∧
      owed.resetAsserted = false ∧ owed.grantChoice = some .fold ∧
      s.plin.state = .accepting [0xF4, 0x01] ∧ (1 : Byte).getLsbD 0 = true ∧
      s.run.state ≠ .setup ∧ s.monitor.cutoff = none ∧ s.monitor.current = some 1000 ∧
      s.params.ruptureFloor ≤ 1000 ∧ 500 + s.params.ruptureDrop ≤ 1000 :=
  ⟨test_carries.2 1 (by decide), by decide⟩

/-- With 14 and 15 passes owed, under a slice in progress. -/
theorem test_witness_SweepTimerExpires :
    ∀ n ∈ [14, 15], let s := { listening with
        arbiter := { Arbiter.reset with operation := some (slice false) }
        sweep := { Sweep.reset with timer := some { elapsed := 10, interval := 10 }, backlog := n } }
      s.steady = true ∧ s.sweep.timer = some { elapsed := 10, interval := 10 } ∧
        s.sweep.backlog = n ∧ s.port.request = none ∧
        (after .sweepSlice lastSliceDue).steady = true ∧ (after .sweepSlice lastSliceDue).sweep.backlog = 15 ∧
        ((after .sweepSlice lastSliceDue).arbiter.operation.map fun op => (op.requester, op.endsPass)) =
          some (.sweep, true) := by decide +kernel

/-- A table in which every slot holds a record of grade 1, but for what stands in slot 700. -/
@[irreducible] def fullTable (r : SourceRecord) : List (Nat × SourceRecord) :=
  (List.range 1024).map fun n =>
    (n, if n = 700 then r else graded { axial := n / 32, circ := n % 32 } 5)

/-- A candidate for eviction in slot 700. -/
def victim : SourceRecord := nascent { axial := 21, circ := 28 } 5

/-- No candidate there. -/
def noVictim : SourceRecord := { victim with pinned := true }

/-- An entry of a cell that is in no full table. -/
def stranger : LocatedEvent := located { axial := 40, circ := 37 } 20 .full 66 300 noContext

/-- What stands in a slot of the full table. -/
theorem test_fullTable_slot {r : SourceRecord} {q : Nat × SourceRecord} (h : q ∈ fullTable r) :
    q.1 < 1024 ∧ (q = (700, r) ∨ q.2 = graded { axial := q.1 / 32, circ := q.1 % 32 } 5) := by
  unfold fullTable at h
  obtain ⟨n, hn, rfl⟩ := List.mem_map.1 h
  refine ⟨List.mem_range.1 hn, ?_⟩
  by_cases e : n = 700
  · exact .inl (by rw [if_pos e, e])
  · exact .inr (by rw [if_neg e])

theorem test_fullTable_mem (r : SourceRecord) {n : Nat} (h : n < 1024) :
    (n, if n = 700 then r else graded { axial := n / 32, circ := n % 32 } 5) ∈ fullTable r := by
  unfold fullTable
  exact List.mem_map.2 ⟨n, List.mem_range.2 h, rfl⟩

/-- A table with the full table's slots. -/
def fullOf (r : SourceRecord) : SourceTable := { SourceTable.reset with slots := fullTable r }

theorem test_fullOf_full (r : SourceRecord) : (fullOf r).Full := by
  intro n hn
  rw [SourceTable.at?_isSome]
  exact ⟨_, test_fullTable_mem r hn, rfl⟩

theorem test_recordLaw_graded (k : CellKey) : RecordLaw (graded k 5) where
  graded := rfl
  reported := fun _ => Nat.one_pos
  ratio := Nat.zero_le _
  labelled := rfl
  channels := by simp [graded, SourceRecord.ofFold, SourceRecord.channels]

theorem test_recordLaw_victim : RecordLaw victim ∧ RecordLaw noVictim :=
  ⟨⟨by decide, by decide, by decide, by decide, by decide⟩,
    ⟨by decide, by decide, by decide, by decide, by decide⟩⟩

/-- The record in slot 700 has the key that its place gives. -/
theorem test_tableLaw_full {r : SourceRecord} (law : RecordLaw r) (key : r.key = { axial := 21, circ := 28 }) :
    TableLaw (fullOf r) where
  rising := by
    have : (fullOf r).slots.map (·.1) = List.range 1024 := by
      unfold fullOf fullTable
      rw [List.map_map, Function.comp_def, List.map_id']
    rw [this]
    exact List.pairwise_lt_range
  bounded := fun _ he => (test_fullTable_slot he).1
  distinct := by
    have : (fullOf r).slots.map (·.2.key) =
        (List.range 1024).map fun n => ({ axial := n / 32, circ := n % 32 } : CellKey) := by
      unfold fullOf fullTable
      rw [List.map_map]
      refine List.map_congr_left fun n _ => ?_
      by_cases e : n = 700
      · rw [e]
        exact key
      · rw [Function.comp, if_neg e]
        rfl
    rw [this, List.Nodup, List.pairwise_map]
    refine List.nodup_range.imp fun h e => h ?_
    injection e with e1 e2
    omega
  records := fun e he => by
    rcases (test_fullTable_slot he).2 with h | h
    · rw [h]
      exact law
    · rw [h]
      exact test_recordLaw_graded _

theorem test_fullOf_victim : (fullOf victim).Victim 700 victim := by
  refine ⟨?_, by decide, by decide, fun q hq h _ => ?_⟩
  · exact test_fullTable_mem victim (n := 700) (by decide)
  · rcases (test_fullTable_slot hq).2 with e | e
    · exact .inl e
    · rw [e] at h
      exact absurd h Nat.one_ne_zero

theorem test_fullOf_noCandidate : (fullOf noVictim).NoCandidate := by
  intro q hq h
  rcases (test_fullTable_slot hq).2 with e | e
  · rw [e]
    rfl
  · rw [e] at h
    exact absurd h Nat.one_ne_zero

/-- A key beyond the 32 columns of the full table is not live in it. -/
theorem test_fullOf_notLive {r : SourceRecord} (k : CellKey) (h : 32 ≤ k.circ) (g : r.key.circ < 32) :
    ∀ q ∈ (fullOf r).slots, q.2.key ≠ k := by
  intro q hq e
  rw [← e] at h
  rcases (test_fullTable_slot hq).2 with e | e
  · rw [e] at h
    exact absurd h (Nat.not_le.2 g)
  · rw [e] at h
    exact absurd h (Nat.not_le.2 (Nat.mod_lt _ (by decide)))

theorem test_tableLaw_empty : TableLaw SourceTable.reset where
  rising := .nil
  bounded := fun _ h => absurd h List.not_mem_nil
  distinct := .nil
  records := fun _ h => absurd h List.not_mem_nil

/-- A state with a full table. -/
def filled (r : SourceRecord) (s : State) : State := { s with table := fullOf r }

/-- A ZONAL entry under ZONAL_FOLD 0, and a stranger to a full table with no candidate for eviction. -/
theorem test_witness_FoldReachesNoRecord :
    let zonal := located { axial := 24, circ := 9 } 20 .zonal 66 300 noContext
    let s := folding [zonal] []
    let full := filled noVictim (folding [stranger] [])
    (s.resetAsserted = false ∧ s.grantChoice = some .fold ∧ s.FoldTakes [] zonal [] ∧ TableLaw s.table ∧
      zonal.quality = .zonal ∧ s.params.zonalFold = 0) ∧
    (full.resetAsserted = false ∧ full.grantChoice = some .fold ∧ full.FoldTakes [] stranger [] ∧
      TableLaw full.table ∧ stranger.quality ≠ .zonal ∧ (∀ q ∈ full.table.slots, q.2.key ≠ stranger.cell) ∧
      full.table.Full ∧ full.table.NoCandidate) :=
  ⟨⟨rfl, by decide, ⟨rfl, .inl ⟨rfl, rfl⟩⟩, test_tableLaw_empty, rfl, rfl⟩,
    rfl, by decide, ⟨rfl, .inl ⟨rfl, rfl⟩⟩, test_tableLaw_full test_recordLaw_victim.2 rfl, by decide,
    test_fullOf_notLive _ (by decide) (by decide), test_fullOf_full _, test_fullOf_noCandidate⟩

theorem test_recordLaw_afterF3 : RecordLaw afterF3 :=
  ⟨by decide, by decide, by decide, by decide, by decide⟩

theorem test_tableLaw_afterF3 : TableLaw (folding [f4] [(0, afterF3)]).table where
  rising := by simp [folding, withTable]
  bounded := by simp [folding, withTable]
  distinct := by simp [folding, withTable]
  records := by
    intro e he
    obtain rfl : e = (0, afterF3) := by simpa [folding, withTable] using he
    exact test_recordLaw_afterF3

/-- An entry of a live cell; of another with slot 0 free; and of another in a full table with a candidate for
eviction. -/
theorem test_witness_FoldReachesRecord :
    let s := folding [f4] [(0, afterF3)]
    let free := folding [f4] []
    let full := filled victim (folding [stranger] [])
    (s.resetAsserted = false ∧ s.grantChoice = some .fold ∧ s.FoldTakes [] f4 [] ∧ TableLaw s.table ∧
      f4.quality ≠ .zonal ∧ (0, afterF3) ∈ s.table.slots ∧ afterF3.key = f4.cell) ∧
    (free.resetAsserted = false ∧ free.grantChoice = some .fold ∧ free.FoldTakes [] f4 [] ∧
      TableLaw free.table ∧ (∀ q ∈ free.table.slots, q.2.key ≠ f4.cell) ∧ free.table.LowestFree 0) ∧
    (full.resetAsserted = false ∧ full.grantChoice = some .fold ∧ full.FoldTakes [] stranger [] ∧
      TableLaw full.table ∧ stranger.quality ≠ .zonal ∧ (∀ q ∈ full.table.slots, q.2.key ≠ stranger.cell) ∧
      full.table.Full ∧ full.table.Victim 700 victim) :=
  ⟨⟨rfl, by decide, ⟨rfl, .inl ⟨rfl, rfl⟩⟩, test_tableLaw_afterF3, by decide, by decide, rfl⟩,
    ⟨rfl, by decide, ⟨rfl, .inl ⟨rfl, rfl⟩⟩, test_tableLaw_empty, fun _ h => absurd h List.not_mem_nil,
      by decide, rfl, fun _ h => absurd h (Nat.not_lt_zero _)⟩,
    rfl, by decide, ⟨rfl, .inl ⟨rfl, rfl⟩⟩, test_tableLaw_full test_recordLaw_victim.1 rfl, by decide,
    test_fullOf_notLive _ (by decide) (by decide), test_fullOf_full _, test_fullOf_victim⟩

theorem test_witness_GradeNeverFalls :
    ∀ r ∈ [afterF3, afterF6], r.grade = if r.tracked then min 3 r.met.count else 0 := by decide

/-- A pass in progress, with a record in slot 1000. -/
def inPass (cursor : Nat) : State :=
  withTable [(1000, afterF6)] { listening with
    sweep := { listening.sweep with backlog := 1, pass := true, cursor := cursor } }

theorem test_recordLaw_afterF6 : RecordLaw afterF6 where
  graded := by decide
  reported := by decide
  ratio := by decide
  labelled := by decide
  channels := by decide

theorem test_tableLaw_inPass (cursor : Nat) : TableLaw (inPass cursor).table where
  rising := by simp [inPass, withTable]
  bounded := by simp [inPass, withTable]
  distinct := by simp [inPass, withTable]
  records := by
    intro e he
    obtain rfl : e = (1000, afterF6) := by simpa [inPass, withTable] using he
    exact test_recordLaw_afterF6

/-- The last slice but one of a pass. -/
theorem test_witness_SliceVisits :
    TableLaw (inPass 992).table ∧ (inPass 992).resetAsserted = false ∧
      (inPass 992).grantChoice = some .sweep ∧ (inPass 992).sweep.sliceStart + 16 < 1024 :=
  ⟨test_tableLaw_inPass _, by decide, by decide, by decide⟩

/-- The last slice of a pass. -/
theorem test_witness_PassEnds :
    TableLaw (inPass 1008).table ∧ (inPass 1008).resetAsserted = false ∧
      (inPass 1008).grantChoice = some .sweep ∧ 1024 ≤ (inPass 1008).sweep.sliceStart + 16 ∧
      (inPass 1008).port.request = none :=
  ⟨test_tableLaw_inPass _, by decide, by decide, by decide, rfl⟩

theorem test_witness_VisitDecays :
    ({ afterF6 with activity := 65535, sinceSweep := 4095 }).activity ≤ 65535 ∧
      ({ afterF6 with activity := 65535, sinceSweep := 4095 }).sinceSweep ≤ 4095 := by decide

/-- The backlog at each bound of the urgencies, with all three requesting; each alone; none; a locked table with and
without a request of the port; an operation in progress; and each grant owed. -/
theorem test_witness_GrantChosen :
    let waiting := after (.lookup (frame 0x02 [1, 0])) settled
    ((∀ n ∈ [1, 3, 4, 7, 8, 11, 12, 15],
      let s := { contending 1 0 [.port, .sweep, .fold] with sweep := { Sweep.reset with backlog := n } }
      s.arbiter.operation = none ∧ s.arbiter.locked = false ∧ s.run.state = .listening ∧
        s.former.queue ≠ [] ∧ 0 < s.sweep.backlog ∧ s.port.request =
          some { hold := false, stage := .waiting (.lookup { axial := 0, circ := 0 }) }) ∧
      (sweeping 3 []).run.state = .listening ∧ 0 < (sweeping 3 []).sweep.backlog ∧
      (sweeping 3 []).former.queue = [] ∧ (sweeping 3 []).port.request = none ∧
      listening.sweep.backlog = 0 ∧ listening.sweep.pass = false ∧ listening.former.queue = [] ∧
      listening.port.request = none ∧ (folding [f4] []).former.queue ≠ [] ∧
      (folding [f4] []).sweep.backlog = 0 ∧ waiting.run.state = .setup ∧
      waiting.port.request =
        some { hold := false, stage := .waiting (.lookup { axial := 1, circ := 0 }) } ∧
      (locked 0 9 listening).arbiter.locked = true ∧ (locked 0 9 listening).arbiter.operation = none ∧
      (locked 0 9 waiting).port.request = waiting.port.request ∧
      (after .fold (folding [f4] [])).arbiter.operation ≠ none ∧
      (∀ e ∈ [(folding [f4] [], Requester.fold), (sweeping 3 [], .sweep), (waiting, .port)],
        e.1.resetAsserted = false ∧ e.1.grantChoice = some e.2) ∧
      Instr.mergeServe ≠ .reset ∧ Instr.mergeServe ≠ .resetnRelease ∧ Instr.mergeServe ≠ .lockExpiry ∧
      Instr.mergeServe ≠ .annunciatorFrameStart ∧
      (∀ ch, Instr.mergeServe ≠ .plinDataCharacter ch) ∧ (folding [f4] []).former.queue.length < 64) ∧
      ∀ q : Requester, Instr.mergeServe ≠ match q with
        | .port => .portGrant
        | .fold => .fold
        | .sweep => .sweepSlice := by
  refine ⟨by decide, fun q => ?_⟩
  cases q <;> decide

/-- A LOOKUP alone; a RETIRE and a LOOKUP chosen while FOLD and SWEEP request too. -/
theorem test_witness_PortGrantBegins :
    let ask := fun (hold : Bool) (work : TableWork) (s : State) =>
      { s with port := { Port.reset with request := some { hold := hold, stage := .waiting work } } }
    (∀ e ∈ [(true, TableWork.lookup { axial := 1, circ := 0 }, listening),
        (false, .retire { axial := 24, circ := 9 }, contending 1 3 [.fold, .sweep, .port]),
        (true, .lookup { axial := 24, circ := 9 }, contending 0 2 [.sweep, .fold, .port])],
      let s := ask e.1 e.2.1 e.2.2
      s.resetAsserted = false ∧ s.port.request = some { hold := e.1, stage := .waiting e.2.1 } ∧
        s.grantChoice = some .port) ∧
      (contending 1 3 [.fold, .sweep, .port]).foldRequests = true ∧
      (contending 1 3 [.fold, .sweep, .port]).sweepRequests = true := by decide

/-- A slice in progress with a request waiting, in LISTENING and as the last of each drain; a PORT operation
with and without a forced release that waits. -/
theorem test_witness_OperationCompletes :
    let busy := fun (s : State) => { s with arbiter := { s.arbiter with operation := some (slice false) } }
    let granted := after .portGrant (after (.lookup (frame 0x03 [1, 0])) listening)
    let breaking := { granted with arbiter := { granted.arbiter with breaking := true } }
    (busy { listening with sweep := { Sweep.reset with backlog := 1 } }).sweep.backlog = 1 ∧
      (slice true).endsPass = true ∧
      (busy listening).resetAsserted = false ∧ (busy listening).arbiter.operation = some (slice false) ∧
      (slice false).requester ≠ .port ∧ (slice false).autoRetired = 2 ∧
      ((after .fold (folding [f4] [])).arbiter.operation.map (·.requester)) = some .fold ∧
      (busy listening).port.request = none ∧
      (busy listening).run.state ≠ .freezing ∧
      (∀ f ∈ [Flavour.requested, .rupture],
        let s := busy (inRun .freezing (some f))
        s.run.state = .freezing ∧ s.run.flavour = some f ∧ s.sweep.backlog = 0 ∧ s.sweep.pass = false ∧
          s.former.queue = [] ∧ s.former.openSet = [] ∧ s.port.request = none) ∧
      (granted.arbiter.operation.map (·.requester)) = some .port ∧
      granted.port.request = some { hold := true, stage := .granted .notFound .none } ∧
      granted.arbiter.breaking = false ∧ breaking.arbiter.breaking = true ∧
      breaking.port.request = some { hold := true, stage := .granted .notFound .none } := by decide

/-- 200,000 ticks since the sample and 100,000 since the grant, both across the wrap of the timebase; and the same
lock with a request waiting, with a sweep at MUST beside it and alone. -/
theorem test_witness_TimeLimitsExpire :
    let s := { locked (2 ^ 48 - 99995) 5 listening with
      monitor := { Monitor.reset with current := some 5, stamp := 2 ^ 48 - 199995, phase := .loading } }
    let ask : State → State := fun s => { s with port := { Port.reset with
      request := some { hold := true, stage := .waiting (.lookup { axial := 0, circ := 0 }) } } }
    let must := ask { s with sweep := { listening.sweep with backlog := 12 } }
    let freed : State → State := fun s => { s with
      arbiter := { s.arbiter with locked := false, lockLost := true }
      latches := { s.latches with lockBroken := true } }
    s.resetAsserted = false ∧ s.grantChoice = none ∧ s.monitor.current.isSome = true ∧
      (s.params.sampleTimeout * 1000 : Int) ≤ ((s.now : Int) - s.monitor.stamp) % 2 ^ 48 ∧
      must.arbiter.operation = none ∧ must.sweepRequests = true ∧ must.sweep.backlog = 12 ∧
      (ask s).arbiter.operation = none ∧ (freed (ask s)).grantChoice = some .port ∧
      s.arbiter.locked = true ∧ s.arbiter.breaking = false ∧
      (s.params.lockLimit * 1000 : Int) ≤ ((s.now : Int) - s.arbiter.acquired) % 2 ^ 48 ∧
      s.portBusyAtTable = false ∧
      (after .portGrant (after (.lookup (frame 0x03 [1, 0])) listening)).portBusyAtTable = true := by decide

/-- The grid of the defaults is 60 by 38. -/
theorem test_witness_ReferenceResolves :
    ParamLaw listening.params ∧ listening.params.na = 60 ∧ listening.params.nc = 38 ∧
      (frame 0x02 [59, 37]).long = true ∧ (frame 0x02 [59, 37]).byteAt 0 = 59 ∧
      (frame 0x02 [60, 37]).byteAt 0 = 60 ∧ (frame 0x02 [59, 38]).byteAt 1 = 38 ∧
      (frame 0 [0xF0]).long = false ∧ (frame 0 [0xF0]).byteAt 0 / 16 = 15 :=
  ⟨test_paramLaw_reset, by decide⟩

/-- A ready port before an idle table with the six records of Table 5-2. -/
def ready : State := withTable sixRecords settled

/-- A ready port with a slice in progress, before the same table, in LISTENING. -/
def readyBusy : State := withTable sixRecords { listening with
  arbiter := { Arbiter.reset with operation := some (slice false) } }

/-- A request taken at an idle table is chosen at once; one taken within a slice waits, and is chosen at the slice's
completion (Table 8-5, step 1). -/
abbrev waitsAndIsChosen (request : Instr) : Prop :=
  let asked := after request readyBusy
  (after request ready).grantChoice = some .port ∧ (after request ready).resetAsserted = false ∧
    (after request ready).arbiter.breaking = false ∧ (after request ready).port.request.isSome = true ∧
    readyBusy.portReady = true ∧ asked.grantChoice = none ∧ asked.port.request.isSome = true ∧
    (after .operationCompletion asked).grantChoice = some .port

theorem test_table_requests_wait :
    ∀ i ∈ [Instr.lookup (frame 0x02 [1, 0]), .scan (frame 0x02 [0, 6, 3, 1]), .changes (frame 0 []),
      .seed (frame 0x02 [1, 0, 9, 0, 63]), .mark (frame 0x02 [1, 0, 0x06]), .clearStats (frame 0x02 [1, 0]),
      .retire (frame 0x02 [1, 0])], waitsAndIsChosen i := by decide +kernel

theorem test_witness_TableReadsServed :
    ready.portReady = true ∧ ready.tableIdle = true ∧ formOk 0x20 (frame 0x02 [1, 0]) = true ∧
      ready.resolveRef (frame 0x02 [1, 0]) = some { axial := 1, circ := 0 } ∧
      ready.table.find? { axial := 1, circ := 0 } = some (4, graded { axial := 1, circ := 0 } 5) ∧
      ready.resolveRef (frame 0x02 [2, 2]) = some { axial := 2, circ := 2 } ∧
      ready.table.find? { axial := 2, circ := 2 } = none ∧ formOk 0x21 (frame 0x02 [0, 6, 3, 1]) = true ∧
      ready.resolveRef (frame 0x02 [0, 6, 3, 1]) = some { axial := 0, circ := 6 } ∧
      (frame 0x02 [0, 6, 3, 1]).byteAt (frame 0x02 [0, 6, 3, 1]).refBytes ≤ 3 ∧
      formOk 0x22 (frame 0 []) = true ∧ (ready.table.slots.map (·.2.key)).Nodup := by decide

theorem test_tableLaw_ready : TableLaw ready.table where
  rising := by decide
  bounded := by decide
  distinct := by decide
  records := by
    intro e he
    replace he : e ∈ sixRecords := he
    simp only [sixRecords, List.mem_cons, List.not_mem_nil, or_false] at he
    rcases he with rfl | rfl | rfl | rfl | rfl | rfl <;>
      exact ⟨by decide, by decide, by decide, by decide, by decide⟩

/-- SEED of a live key; of a new one with slot 1 the lowest free; and of a key that is new to a full table, with
and without a candidate for eviction. -/
theorem test_witness_SeedServed :
    let f := frame 0x02 [1, 0, 9, 0, 63]
    let g := frame 0x02 [40, 37, 9, 0, 63]
    (ready.portReady = true ∧ ready.tableIdle = true ∧ TableLaw ready.table ∧ formOk 0x23 f = true ∧
      ready.resolveRef f = some { axial := 1, circ := 0 } ∧ f.byteAt (f.refBytes + 2) < 64 ∧
      ∃ q ∈ ready.table.slots, q.2.key = { axial := 1, circ := 0 }) ∧
    (formOk 0x23 g = true ∧ g.byteAt (g.refBytes + 2) < 64 ∧
      ready.resolveRef g = some { axial := 40, circ := 37 } ∧
      (∀ q ∈ ready.table.slots, q.2.key ≠ { axial := 40, circ := 37 }) ∧ ready.table.LowestFree 1) ∧
    (∀ r, (filled r settled).portReady = true ∧ (filled r settled).tableIdle = true ∧
      (filled r settled).resolveRef g = some { axial := 40, circ := 37 } ∧ (filled r settled).table.Full) ∧
    (∀ r ∈ [victim, noVictim], TableLaw (filled r settled).table ∧
      ∀ q ∈ (filled r settled).table.slots, q.2.key ≠ { axial := 40, circ := 37 }) ∧
    (filled victim settled).table.Victim 700 victim ∧ (filled noVictim settled).table.NoCandidate := by
  refine ⟨⟨by decide, by decide, test_tableLaw_ready, by decide, by decide, by decide, by decide⟩,
    ⟨by decide, by decide, by decide, by decide, by decide, by decide, fun n hn => ?_⟩,
    fun r => ⟨rfl, rfl, ?_, test_fullOf_full r⟩, fun r hr => ?_, test_fullOf_victim, test_fullOf_noCandidate⟩
  · obtain rfl : n = 0 := by omega
    decide
  · show settled.resolveRef (frame 0x02 [40, 37, 9, 0, 63]) = some { axial := 40, circ := 37 }
    decide
  · simp only [List.mem_cons, List.not_mem_nil, or_false] at hr
    rcases hr with rfl | rfl
    · exact ⟨test_tableLaw_full test_recordLaw_victim.1 rfl, test_fullOf_notLive _ (by decide) (by decide)⟩
    · exact ⟨test_tableLaw_full test_recordLaw_victim.2 rfl, test_fullOf_notLive _ (by decide) (by decide)⟩

theorem test_witness_MarkServed :
    let f := frame 0x02 [1, 0, 0x06]
    ready.portReady = true ∧ ready.tableIdle = true ∧ formOk 0x24 f = true ∧
      ready.resolveRef f = some { axial := 1, circ := 0 } ∧ f.byteAt f.refBytes % 4 ≠ 3 ∧
      f.byteAt f.refBytes / 4 % 4 ≠ 3 ∧
      ready.table.find? { axial := 1, circ := 0 } = some (4, graded { axial := 1, circ := 0 } 5) ∧
      ready.resolveRef (frame 0x02 [2, 2, 0x06]) = some { axial := 2, circ := 2 } ∧
      ready.table.find? { axial := 2, circ := 2 } = none := by decide

theorem test_witness_ClearAndRetireServed :
    let f := frame 0x02 [1, 0]
    ready.portReady = true ∧ ready.tableIdle = true ∧ ready.resolveRef f = some { axial := 1, circ := 0 } ∧
      formOk 0x25 f = true ∧ formOk 0x26 f = true ∧
      ready.table.find? { axial := 1, circ := 0 } = some (4, graded { axial := 1, circ := 0 } 5) ∧
      ready.resolveRef (frame 0x02 [2, 2]) = some { axial := 2, circ := 2 } ∧
      ready.table.find? { axial := 2, circ := 2 } = none := by decide

/-- Geometry writes stored as written and not; channel 7 to a free position, and to that of channel 9; and a
channel, a ring and a column one above their bounds. -/
theorem test_witness_GeometryWritesServed :
    let free := frame 0 [7, 1, 3, 1]
    let taken := frame 0 [7, 1, 2, 1]
    ready.portReady = true ∧ ready.run.state = .setup ∧ ready.tableIdle = true ∧
      listening.portReady = true ∧ listening.run.state ≠ .setup ∧
      max ((max ready.params.length ready.params.circ + 255) / 256) 10 = 24 ∧
      (max 24 (min 4000 (24 : BitVec 16).toNat) = 24 ∧ max 24 (min 4000 (23 : BitVec 16).toNat) ≠ 23) ∧
      (∀ f ∈ [frame 0 [64, 0, 0, 0], frame 0 [0, 16, 0, 0], frame 0 [0, 0, 16, 0]],
        formOk 0x06 f = true ∧ (63 < f.byteAt 0 ∨ 15 < f.byteAt 1 ∨ 15 < f.byteAt 2)) ∧
      formOk 0x06 free = true ∧ formOk 0x06 taken = true ∧ free.byteAt 0 = 7 ∧ free.byteAt 1 = 1 ∧
      free.byteAt 2 = 3 ∧ taken.byteAt 2 = 2 ∧ (free.payload.getD 3 0).getLsbD 0 = true ∧
      settled.sensors[9] = { ring := 1, column := 2, enabled := true } ∧
      (∀ d : Channel, settled.sensors[d].enabled = true → settled.sensors[d].column ≠ 3) := by
  decide +kernel

/-- What STATUS reports of a state, the table at rest. -/
def restReport (s : State) : StatusReport :=
  { run := s.run.state, flavour := s.run.flavour, laneA := s.intake.laneA.state, laneB := s.intake.laneB.state
    locked := s.arbiter.locked, cutoff := s.monitor.cutoff, phase := s.monitor.phase
    pressure := s.monitor.current, cycle := s.monitor.cycle, liveCount := s.table.slots.length
    reportCount := (s.table.slots.filter fun e => e.2.report).length, backlog := s.sweep.backlog
    queueDepth := s.former.queue.length, latches := s.latches }

/-- What STATUS reports at rest, and with a slice in progress. -/
theorem test_witness_StatusAndCountersAnswered :
    let busy := { listening with arbiter := { Arbiter.reset with operation := some (slice true) } }
    listening.portReady = true ∧ formOk 0x01 (frame 0 []) = true ∧ formOk 0x02 (frame 0 []) = true ∧
      formOk 0x02 (frame 0x04 []) = true ∧ (frame 0 []).clear = false ∧ (frame 0x04 []).clear = true ∧
      listening.arbiter.operation = none ∧ (restReport listening).backlog = listening.sweep.backlog ∧
      busy.portReady = true ∧ busy.arbiter.operation = some (slice true) ∧
      (restReport busy).liveCount = (slice true).liveBefore ∧
      (restReport busy).queueDepth =
        min 64 (busy.former.queue.length + (slice true).tookEntry.toNat) := by decide

/-- VEL, of range 32 to 1023; channel 63; and codes of no parameter and of no channel. -/
theorem test_witness_ConfigurationAnswered :
    settled.portReady = true ∧ formOk 0x03 (frame 0 [0x04]) = true ∧
      (frame 0 [0x04]).byteAt 0 = paramCode .vel ∧ paramOfCode ((frame 0 [0x40]).byteAt 0) = none ∧
      formOk 0x05 (frame 0 [63]) = true ∧ (frame 0 [63]).byteAt 0 = (63 : Channel).val ∧
      64 ≤ (frame 0 [64]).byteAt 0 ∧ formOk 0x04 (frame 0 [0x04, 0xFF, 0x03]) = true ∧
      (frame 0 [0x04, 0xFF, 0x03]).byteAt 1 + 256 * (frame 0 [0x04, 0xFF, 0x03]).byteAt 2 = 1023 ∧
      (frame 0 [0x04, 0x00, 0x04]).byteAt 1 + 256 * (frame 0 [0x04, 0x00, 0x04]).byteAt 2 = 1024 ∧
      (frame 0 [0x04, 31, 0]).byteAt 1 + 256 * (frame 0 [0x04, 31, 0]).byteAt 2 = 31 := by decide

/-- A sample and a lock of 10,000 ticks, with limits written at 10,000 and above; both values of ANN_ENABLE. -/
theorem test_witness_OwnEffectWritesAnswered :
    let s := { locked 0 10000 listening with monitor := { Monitor.reset with current := some 5 } }
    s.portReady = true ∧ s.monitor.current.isSome = true ∧
      ((max 10 (min 60000 (0 : BitVec 16).toNat) : Nat) * 1000 : Int) ≤
        ((s.now : Int) - s.monitor.stamp) % 2 ^ 48 ∧
      ¬((max 10 (min 60000 (11 : BitVec 16).toNat) : Nat) * 1000 : Int) ≤
        ((s.now : Int) - s.monitor.stamp) % 2 ^ 48 ∧
      s.arbiter.locked = true ∧ s.arbiter.breaking = false ∧ s.portBusyAtTable = false ∧
      ((max 1 (min 1000 (10 : BitVec 16).toNat) : Nat) * 1000 : Int) ≤
        ((s.now : Int) - s.arbiter.acquired) % 2 ^ 48 ∧
      s.params.annEnable = 1 ∧ min 1 (0 : BitVec 16).toNat = 0 ∧ min 1 (7 : BitVec 16).toNat = 1 ∧
      ({ s with params := { Params.reset with annEnable := 0 } }).params.annEnable ≠ 1 := by decide

theorem test_witness_ViewBaseRule :
    settled.portReady = true ∧ formOk 0x16 (frame 0x02 [59, 37]) = true ∧
      (frame 0x02 [59, 37]).long = true ∧
      settled.params.inGrid { axial := 59, circ := 37 } = true ∧
      settled.params.inGrid { axial := 59, circ := 38 } = false ∧ formOk 0x16 (frame 0 [0x11]) = true ∧
      (frame 0 [0x11]).long = false ∧ exec .mergeServe settled = .next (after .mergeServe settled) :=
  ⟨by decide, by decide, by decide, by decide, by decide, by decide, by decide, rfl⟩

theorem test_witness_StartAnswered :
    settled.portReady = true ∧ formOk 0x10 (frame 0 []) = true ∧ settled.run.state = .setup ∧
      2 ≤ ((List.finRange 64).filter fun c => settled.sensors[c].enabled).length ∧
      listening.portReady = true ∧ listening.run.state ≠ .setup ∧
      ((List.finRange 64).filter fun c => (sensorsAt [(5, 1, 1)])[c].enabled).length < 2 := by
  decide +kernel

/-- STOP in SETUP, at an idle table, and under a slice. -/
theorem test_witness_StopAnswered :
    let busy := { listening with arbiter := { Arbiter.reset with operation := some (slice true) } }
    formOk 0x11 (frame 0 []) = true ∧ settled.portReady = true ∧ settled.run.state = .setup ∧
      listening.portReady = true ∧ listening.run.state ≠ .setup ∧ listening.backgroundBusy = false ∧
      busy.portReady = true ∧ busy.run.state ≠ .setup ∧ busy.arbiter.operation = some (slice true) ∧
      (slice true).requester ≠ .port := by decide

theorem test_witness_FreezeAndThawAnswered :
    formOk 0x12 (frame 0 []) = true ∧ formOk 0x13 (frame 0 []) = true ∧ settled.portReady = true ∧
      settled.run.state = .setup ∧ listening.portReady = true ∧ listening.run.state = .listening ∧
      (∀ st ∈ [RunState.freezing, .frozen],
        (inRun st (some .requested)).portReady = true ∧ (inRun st (some .requested)).run.state = st ∧
          (inRun st (some .requested)).run.flavour = some .requested) := by decide

/-- At an idle table, and under a slice. -/
theorem test_witness_EngineResetAndRestartAnswered :
    let busy := { listening with arbiter := { Arbiter.reset with operation := some (slice true) } }
    formOk 0x14 (frame 0 []) = true ∧ formOk 0x15 (frame 0 []) = true ∧ listening.portReady = true ∧
      listening.backgroundBusy = false ∧ busy.portReady = true ∧
      busy.arbiter.operation = some (slice true) ∧ (slice true).requester ≠ .port := by decide

/-- Both drains; the first with a marked entry left in the queue. -/
theorem test_witness_DrainsEnd :
    let asked := { inRun .freezing (some .requested) with
      former := { Former.reset with queue := [{ f4 with held := true }] } }
    let burst := inRun .freezing (some .rupture)
    (∀ s ∈ [asked, burst], s.steady = true ∧ s.run.state = .freezing ∧ s.sweep.backlog = 0 ∧
        s.sweep.pass = false ∧ s.backgroundBusy = false) ∧
      asked.run.flavour = some .requested ∧ (∀ e ∈ asked.former.queue, e.held = true) ∧
      burst.run.flavour = some .rupture ∧ burst.former.queue = [] ∧ burst.former.openSet = [] := by decide

theorem test_witness_FrameStarts :
    let x : Timer := { elapsed := 200000, interval := 200000 }
    let s := { listening with annunciator := { timer := some x, sending := none } }
    let t := after .annunciatorFrameStart s
    s.resetAsserted = false ∧ s.annunciator.timer = some x ∧ x.interval ≤ x.elapsed ∧
      s.annunciator.sending = none ∧ (t.annunciator.sending.map fun f => (f.ticks, f.characters[0]?)) =
        some (0, some (makeCharacter true 2)) ∧
      5 * (12 * 32 + 11) ≤ 2 * 989 ∧ 2 * (989 + 1) ≤ 5 * (12 * 32 + 11 + 1) := by decide +kernel

/-- A response of 4 bytes after the filler, which 5 bytes of read take whole and 4 do not. -/
theorem test_witness_ResponseRead :
    settled.steady = true ∧ settled.port.response = none ∧ settled.ready = false ∧
      (answeredOk settled).steady = true ∧ (answeredOk settled).ready = true ∧
      (answeredOk settled).port.response = some { status := .ok, lockLost := false, payload := .none } ∧
      (∀ bytes, ResponseLayout { status := .ok, lockLost := false, payload := .none } false bytes →
        bytes.length = 4) ∧
      ResponseLayout { status := .ok, lockLost := false, payload := .none } false [0, 0, 0, 0] := by
  refine ⟨by decide, by decide, by decide, by decide, by decide, by decide, fun bytes h => ?_, ?_⟩
  · obtain ⟨h1, -, -, -, h2⟩ := h
    have : (bytes.drop 4).length = 0 := by
      rw [show bytes.drop 4 = [] from h2]
      rfl
    simp only [List.length_drop] at this
    omega
  · exact ⟨by decide, by decide, by decide, by decide, rfl⟩

/-- A request before a response is read; frames of the wrong form, of an unknown code, with fields out of
range, and with a cell outside the grid. -/
theorem test_witness_FramesTurnedAway :
    (answeredOk settled).steady = true ∧ (answeredOk settled).portBusy = true ∧
      encodeFrame (.status (frame 0 [])) = some [0x01, 0, 0] ∧
      Instr.status (frame 0 []) ≠ .responseRead (reading 3 false) ∧
      (Instr.status (frame 0 [])).WellFormed = true ∧ settled.portReady = true ∧
      encodeFrame (.status (frame 0 [9])) = some (frameBytes 0x01 (frame 0 [9])) ∧
      formOk 0x01 (frame 0 [9]) = false ∧ formOk 0x21 (frame 0x02 [0, 0, 4, 0]) = true ∧
      3 < (frame 0x02 [0, 0, 4, 0]).byteAt (frame 0x02 [0, 0, 4, 0]).refBytes ∧
      formOk 0x23 (frame 0x02 [0, 0, 0, 0, 64]) = true ∧
      63 < (frame 0x02 [0, 0, 0, 0, 64]).byteAt ((frame 0x02 [0, 0, 0, 0, 64]).refBytes + 2) ∧
      formOk 0x24 (frame 0x02 [0, 0, 0x0C]) = true ∧
      (frame 0x02 [0, 0, 0x0C]).byteAt (frame 0x02 [0, 0, 0x0C]).refBytes / 4 % 4 = 3 ∧
      settled.resolveRef (frame 0x02 [60, 0]) = none ∧ formOk 0x20 (frame 0x02 [60, 0]) = true := by decide

/-- A CELL write; no stray bit more than 7; a line with a good character and, at once, a faulty one; and the
characters of the last clause. -/
theorem test_witness_DecodeOfEncode :
    (∀ e ∈ [(3, dataChar 5), (0, (0b010000001010 : Character))], e.2.getLsbD 0 = false) ∧
      Carries true 5 (makeCharacter true 5) ∧ Carries false 5 (dataChar 5) ∧ Faulty 0b010000001010 ∧
      (0xFFF : Character).getLsbD 0 = true ∧
    (Instr.geometryWrite 0x01 .cell 100).WellFormed = true ∧
      encodeFrame (.geometryWrite 0x01 .cell 100) = some [0x04, 0x01, 3, 3, 100, 0] ∧
      (List.replicate 7 true).length < 8 :=
  ⟨by decide, test_carries.1 5 (by decide), test_carries.2 5 (by decide), by unfold Faulty; decide, by decide⟩

theorem test_witness_EncodeOfDecode : (0x01 : Byte) ≠ 0x5A := by decide

/-- The laws at a state within a pass, with a record in the table. -/
theorem test_witness_StepKeepsZoneLaw :
    let s := { inPass 992 with zones := State.reset.zones.set 20 { live := 1, building := 0, unlocated := 0 } }
    ZoneLaw s ∧ step s = .next s.idle := by
  refine ⟨⟨test_tableLaw_inPass 992, ?_, ?_⟩, rfl⟩
  · intro e he _
    obtain rfl : e = (1000, afterF6) := by simpa [inPass, withTable] using he
    decide
  · intro _ e he hc
    obtain rfl : e = (1000, afterF6) := by simpa [inPass, withTable] using he
    exact absurd hc (by decide)

/-- With a rupture latched, an event open and an entry in the queue. -/
theorem test_witness_StepKeepsEventPathLaws :
    let s := { ruptured with former := { Former.reset with openSet := [members 7 6000], queue := [f4] } }
    CapacityLaw s ∧ CutoffLaw s ∧ step s = .next s.idle := by
  refine ⟨⟨by decide, by decide, by decide, by decide, by decide⟩, ?_, rfl⟩
  intro c hc
  obtain rfl : c = 6000 := by simpa [ruptured] using hc.symm
  decide

theorem test_witness_StepKeepsRunLaw : RunLaw ruptured ∧ step ruptured = .next ruptured.idle :=
  ⟨test_runLaw_ruptured, rfl⟩

/-- The lock held by a LOOKUP in progress. -/
theorem test_witness_StepKeepsPortLaw :
    let s := after .portGrant (after (.lookup (frame 0x03 [1, 0])) listening)
    PortLaw s ∧ step s = .next s.idle :=
  ⟨⟨by decide, by decide, by decide, by decide, by decide⟩, rfl⟩

theorem test_witness_StepKeepsConfigurationLaw :
    ParamLaw settled.params ∧ SensorLaw settled ∧ step settled = .next settled.idle := by
  refine ⟨test_paramLaw_reset, ⟨?_, fun _ _ _ h => nomatch h⟩, rfl⟩
  unfold distinctPositions
  decide +kernel

end Sys2Proof.Machine.Tests
end

section
/-! The statements about the timebase and the hit intake (chapter 1). -/

namespace Sys2Proof.Machine

/-! ### Characters on the hit lanes -/

/-! With no grant owed, each of the three hit lane commands is the lane's reception of its character (R4): what the
character is to the lane is settled by the check and the receive state, not by the command's name. -/

theorem exec_hitLaneHeader_steady (l : Lane) (ch : Character) {s : State} (h : s.steady = true) :
    exec (.hitLaneHeader l ch) s = .next (s.takeHitCharacter l ch) :=
  afterGrant_steady (·.takeHitCharacter l ch) h

theorem exec_hitLaneDataCharacter_steady (l : Lane) (ch : Character) {s : State} (h : s.steady = true) :
    exec (.hitLaneDataCharacter l ch) s = .next (s.takeHitCharacter l ch) :=
  afterGrant_steady (·.takeHitCharacter l ch) h

theorem exec_hitLaneCharacterError_steady (l : Lane) (ch : Character) {s : State} (h : s.steady = true) :
    exec (.hitLaneCharacterError l ch) s = .next (s.takeHitCharacter l ch) :=
  afterGrant_steady (·.takeHitCharacter l ch) h

/-- The lane is shut exactly in CLOSED and SETTLING (Table 1-1). -/
theorem LaneState.isOpen_eq_false_iff (st : LaneState) :
    st.isOpen = false ↔ st = .closed ∨ st = .settling := by
  cases st <;> simp [LaneState.isOpen]

/-- A shut lane discards every character unseen (Table 1-1). -/
theorem State.takeHitCharacter_shut {s : State} {l : Lane} (ch : Character)
    (h : (s.intake.lane l).state.isOpen = false) : s.takeHitCharacter l ch = s := by
  simp [State.takeHitCharacter, h]

/-- On an open lane a character with a wrong parity or stop bit is handled as an error (R4, R9). -/
theorem State.takeHitCharacter_faulty {s : State} {l : Lane} {ch : Character} (hf : Faulty ch)
    (h : (s.intake.lane l).state.isOpen = true) : s.takeHitCharacter l ch = s.laneError l := by
  simp [State.takeHitCharacter, h, hf.receive]

/-- What a character error does to the lane and the latches, and that it changes nothing else (R9). -/
theorem State.laneError_eq (s : State) (l : Lane) :
    s.laneError l =
      { s.updLane l fun r => { r with state := .hunting, linkErrors := min 65535 (r.linkErrors + 1) } with
        latches := { s.latches with linkError := true } } :=
  rfl

/-- Settles O9: an open lane takes the error by R9's effects, and a shut lane's reception changes nothing. -/
theorem characterErrorTaken : Obligations.CharacterErrorTaken := by
  intro l ch s hs
  constructor
  · intro hf hopen
    rw [exec_hitLaneCharacterError_steady l ch hs, State.takeHitCharacter_faulty hf hopen, s.laneError_eq]
  · intro hshut
    have hsame : s.takeHitCharacter l ch = s :=
      State.takeHitCharacter_shut ch ((LaneState.isOpen_eq_false_iff _).mpr hshut)
    rw [exec_hitLaneCharacterError_steady l ch hs, exec_hitLaneHeader_steady l ch hs,
      exec_hitLaneDataCharacter_steady l ch hs, hsame]
    exact ⟨rfl, rfl, rfl⟩

end Sys2Proof.Machine
end

section
/-! The statements about the Event Former (chapter 2). -/

namespace Sys2Proof.Machine

/-! ### The command HIT_PLACEMENT -/

/-- A command that may offer an event acts at once where no grant is owed, and at 64 entries (R35). -/
theorem offering_eq {s : State} (command : State → State) (hr : s.resetAsserted = false)
    (hg : s.grantChoice = none ∨ 64 ≤ s.former.queue.length) : offering s command = .next (command s) := by
  unfold offering Config.queueCapacity
  split
  · next hroom =>
    have hnone : s.grantChoice = none := hg.resolve_right (Nat.not_le.2 hroom)
    exact afterGrant_steady command (State.steady_iff.mpr ⟨hr, hnone⟩)
  · exact whileReleased_released _ hr

/-- HIT_PLACEMENT takes the head of the FIFO, places it and tests the rupture drain (R24, R164). -/
theorem exec_hitPlacement_eq {s : State} {d : Descriptor} {rest : List Descriptor}
    (hr : s.resetAsserted = false) (hg : s.grantChoice = none ∨ 64 ≤ s.former.queue.length)
    (hf : s.intake.fifo = d :: rest) :
    exec .hitPlacement s =
      .next ((s.updIntake fun i => { i with fifo := rest }).placeHit d).testRuptureDrain := by
  have htake : s.takeHit = ((s.updIntake fun i => { i with fifo := rest }).placeHit d).testRuptureDrain := by
    simp only [State.takeHit, hf]
  rw [← htake]
  exact offering_eq _ hr hg

/-- With an event open or queued the rupture drain is not complete (R164). -/
theorem State.testRuptureDrain_unfinished {s : State}
    (h : s.former.openSet ≠ [] ∨ s.former.queue ≠ []) : s.testRuptureDrain = s := by
  rcases s.testRuptureDrain_cases with ⟨-, -, hdrained, -⟩ | hsame
  · simp only [State.ruptureDrained, Bool.and_eq_true, List.isEmpty_iff] at hdrained
    obtain ⟨⟨⟨⟨hq, ho⟩, -⟩, -⟩, -⟩ := hdrained
    exact absurd h (by simp [hq, ho])
  · exact hsame

/-! ### The choice of the candidate -/

/-- `leastIndex` names a place whose element meets the test and is, with the lower place first, least among those
that do. -/
theorem leastIndex_eq_some {α : Type} {p : α → Bool} {f : α → Nat} {l : List α} {i : Nat} {a : α}
    (ha : l[i]? = some a) (hp : p a = true)
    (hmin : ∀ j, ∀ h : j < l.length, p l[j] = true → f a < f l[j] ∨ (f a = f l[j] ∧ i ≤ j)) :
    leastIndex p f l = some (i, f a) := by
  induction l generalizing i with
  | nil => simp at ha
  | cons b rest ih =>
    have hhead : p b = true → f a < f b ∨ (f a = f b ∧ i ≤ 0) := hmin 0 (Nat.zero_lt_succ _)
    have htail (j : Nat) (hj : j < rest.length) :
        p rest[j] = true → f a < f rest[j] ∨ (f a = f rest[j] ∧ i ≤ j + 1) :=
      hmin (j + 1) (Nat.succ_lt_succ hj)
    unfold leastIndex
    cases i with
    | zero =>
      obtain rfl : b = a := by simpa using ha
      cases hl : leastIndex p f rest with
      | none => simp [hp]
      | some q =>
        obtain ⟨j, v⟩ := q
        obtain ⟨c, hc, hpc, rfl⟩ := leastIndex_some hl
        obtain ⟨hj, rfl⟩ := List.getElem?_eq_some_iff.mp hc
        have hle : f b ≤ f rest[j] := by
          have := htail j hj hpc
          omega
        simp [hp, hle]
    | succ i =>
      have hrest : leastIndex p f rest = some (i, f a) :=
        ih (by simpa using ha) fun j hj hpj => by simpa using htail j hj hpj
      have hskip : (p b && decide (f b ≤ f a)) = false := by
        cases hpb : p b
        · rfl
        · have hlt : f a < f b := by
            have := hhead hpb
            omega
          simp only [Bool.true_and, decide_eq_false (Nat.not_le.2 hlt)]
      simp only [hrest, hskip, Bool.false_eq_true, if_false]

/-- The model's test for a candidate is the one of the statements (R26). -/
theorem OpenEvent.candidate_eq (w : Nat) (d : Descriptor) (e : OpenEvent) :
    e.candidate w d = isCandidate w d e := by
  have hdist : absDiff d.time e.first.time ≤ w ↔
      d.time ≤ e.first.time + w ∧ e.first.time ≤ d.time + w := by
    unfold absDiff
    omega
  simp only [OpenEvent.candidate, isCandidate, hdist, Bool.decide_and]

theorem State.Chosen.get {s : State} {d : Descriptor} {i : Nat} {e : OpenEvent} (h : s.Chosen d i e) :
    s.former.openSet[i]? = some e :=
  h.1

/-- The candidate that a hit is offered to stands at the place that the Event Former finds (R26). -/
theorem State.Chosen.candidateIndex {s : State} {d : Descriptor} {i : Nat} {e : OpenEvent}
    (h : s.Chosen d i e) : s.candidateIndex d = some i := by
  obtain ⟨he, hcand, hleast⟩ := h
  have hfun : OpenEvent.candidate s.params.w d = isCandidate s.params.w d :=
    funext fun q => q.candidate_eq s.params.w d
  simp only [State.candidateIndex, hfun,
    leastIndex_eq_some (f := fun q => q.first.time) he hcand hleast, Option.map_some]

/-- A hit is placed by R26 on exactly when it is not later than the cutoff (R25). -/
theorem State.postRupture_eq (s : State) (d : Descriptor) : s.postRupture d = !s.beforeCutoff d := by
  unfold State.postRupture State.beforeCutoff
  cases s.monitor.cutoff with
  | none => rfl
  | some c => simp only [← decide_not, Nat.not_le]

/-- A hit with a candidate is counted EXCESS or joins the candidate (R27, R28). -/
theorem State.placeHit_chosen {s : State} {d : Descriptor} {i : Nat} {e : OpenEvent}
    (hb : s.beforeCutoff d = true) (h : s.Chosen d i e) :
    s.placeHit d =
      if 8 ≤ e.rest.length + 1 then s.updFormer fun f => { f with excesses := bump f.excesses }
      else s.joinAt i e d := by
  have hp : s.postRupture d = false := by simp [s.postRupture_eq, hb]
  simp only [State.placeHit, hp, h.candidateIndex, h.get]
  rfl

/-! ### Joining and closing -/

/-- The insertion by time splits a list after all that are not later, where the next is later (R28). -/
theorem insertByTime_append {d : Descriptor} {before after : List Descriptor}
    (hb : ∀ m ∈ before, m.time ≤ d.time) (ha : ∀ m ∈ after.head?, d.time < m.time) :
    insertByTime d (before ++ after) = before ++ d :: after := by
  induction before with
  | nil =>
    cases after with
    | nil => rfl
    | cons m rest =>
      have hlater : ¬m.time ≤ d.time := Nat.not_le.2 (ha m rfl)
      simp only [List.nil_append, insertByTime, hlater, if_false]
  | cons m rest ih =>
    obtain ⟨hm, hrest⟩ := List.forall_mem_cons.mp hb
    simp only [List.cons_append, insertByTime, hm, if_true, ih hrest]

/-- A hit no earlier than the first member takes its place among the others, and the event stays open (R28). -/
theorem State.joinAt_later {s : State} {i : Nat} {e : OpenEvent} {d : Descriptor}
    {before after : List Descriptor} (hrest : e.rest = before ++ after) (hd : e.first.time ≤ d.time)
    (hb : ∀ m ∈ before, m.time ≤ d.time) (ha : ∀ m ∈ after.head?, d.time < m.time) :
    s.joinAt i e d = s.updFormer fun f =>
      { f with openSet := f.openSet.set i { e with rest := before ++ d :: after } } := by
  have hnot : ¬d.time < e.first.time := Nat.not_lt.2 hd
  simp only [State.joinAt, OpenEvent.join, hnot, hrest, insertByTime_append hb ha, false_and, if_false]

/-- The close of an event that leaves an Open Event Set is the close of the statements (R34 to R36). -/
theorem State.closeEvent_eq_closed (s : State) (l : List OpenEvent) (e : OpenEvent) :
    (s.updFormer fun f => { f with openSet := l }).closeEvent e = s.closed l e := by
  unfold State.closeEvent State.offerEvent Config.queueCapacity State.closed
  by_cases hfull : 64 ≤ s.former.queue.length
  · have hno : ¬s.former.queue.length < 64 := Nat.not_lt.2 hfull
    simp only [State.updFormer_former, hfull, hno, decide_true, if_true, if_false, Bool.or_true]
    rfl
  · have hroom : s.former.queue.length < 64 := Nat.not_le.1 hfull
    simp only [State.updFormer_former, hfull, hroom, decide_false, if_true, Bool.false_eq_true, if_false,
      Bool.or_false]
    rfl

/-- The close of the open event at a place (R34). -/
theorem State.closeAt_eq_closed {s : State} {i : Nat} {e : OpenEvent} (early : Bool)
    (h : s.former.openSet[i]? = some e) :
    s.closeAt i early = s.closed (s.former.openSet.eraseIdx i) { e with early := e.early || early } := by
  simp only [State.closeAt, h]
  exact s.closeEvent_eq_closed _ _

/-- A close leaves an entry in the Event Queue: its own, or the 64 that had it dropped (R35). -/
theorem State.closed_queue_ne_nil (s : State) (l : List OpenEvent) (e : OpenEvent) :
    (s.closed l e).former.queue ≠ [] := by
  by_cases hfull : 64 ≤ s.former.queue.length
  · have hpos : 0 < s.former.queue.length := by omega
    simpa [State.closed, hfull] using List.ne_nil_of_length_pos hpos
  · simp [State.closed, hfull]

/-- What the close of an event leaves does not depend on the Open Event Set that stood before. -/
theorem State.closed_updFormer_openSet (s : State) (l l' : List OpenEvent) (e : OpenEvent) :
    (s.updFormer fun f => { f with openSet := l }).closed l' e = s.closed l' e := rfl

/-- An open event that is changed and closed at once leaves the other open events. -/
theorem State.closeAt_set {s : State} {i : Nat} (e' : OpenEvent) (hi : i < s.former.openSet.length) :
    (s.updFormer fun f => { f with openSet := f.openSet.set i e' }).closeAt i false =
      s.closed (s.former.openSet.eraseIdx i) e' := by
  have hset : (s.former.openSet.set i e')[i]? = some e' := by simp [hi]
  calc
    _ = (s.updFormer fun f => { f with openSet := s.former.openSet.set i e' }).closed
          ((s.former.openSet.set i e').eraseIdx i) { e' with early := e'.early || false } :=
      State.closeAt_eq_closed (s := s.updFormer _) false hset
    _ = s.closed (s.former.openSet.eraseIdx i) e' := by
      rw [State.closed_updFormer_openSet, List.eraseIdx_set_eq, Bool.or_false]

/-- The event that an earlier hit makes of an open one: its first member, with the expiry computed anew (R28). -/
theorem OpenEvent.join_earlier {e : OpenEvent} {d : Descriptor} (p : Params) (hd : d.time < e.first.time) :
    e.join d p.wait = { e with first := d, rest := e.first :: e.rest, expiry := d.time + p.w + p.settle } := by
  simp only [OpenEvent.join, hd, if_true, Params.wait, Nat.add_assoc]

/-- A hit earlier than the first member becomes the first, and the event stays open until its new expiry (R28). -/
theorem State.joinAt_earlier_open {s : State} {i : Nat} {e : OpenEvent} {d : Descriptor}
    (hd : d.time < e.first.time) (hwait : s.now < d.time + s.params.w + s.params.settle) :
    s.joinAt i e d = s.updFormer fun f => { f with
      openSet := f.openSet.set i
        { e with first := d, rest := e.first :: e.rest, expiry := d.time + s.params.w + s.params.settle } } := by
  have hnot : ¬d.time + s.params.w + s.params.settle ≤ s.now := Nat.not_le.2 hwait
  simp only [State.joinAt, OpenEvent.join_earlier s.params hd, hnot, and_false, if_false]

/-- Where the new expiry is not later than now the event closes at once (R28). -/
theorem State.joinAt_earlier_closed {s : State} {i : Nat} {e : OpenEvent} {d : Descriptor}
    (hi : i < s.former.openSet.length) (hd : d.time < e.first.time)
    (hdue : d.time + s.params.w + s.params.settle ≤ s.now) :
    s.joinAt i e d = s.closed (s.former.openSet.eraseIdx i)
      { e with first := d, rest := e.first :: e.rest, expiry := d.time + s.params.w + s.params.settle } := by
  simp only [State.joinAt, OpenEvent.join_earlier s.params hd, hd, hdue, and_self, if_true]
  exact State.closeAt_set _ hi

/-! ### The statements -/

/-- Settles O14: R27's case of the placement; the candidate stays open, so the rupture drain is not complete. -/
theorem fullEventTurnsHitAway : Obligations.FullEventTurnsHitAway := by
  intro d rest i e s hr hg hf hb hc hfull
  have hopen : s.former.openSet ≠ [] := fun hnil => by simpa [hnil] using hc.get
  rw [exec_hitPlacement_eq hr hg hf, State.placeHit_chosen (s := s.updIntake _) hb hc, if_pos hfull,
    State.testRuptureDrain_unfinished]
  · rfl
  · exact .inl hopen

/-- Settles O13: the three ends of `joinAt`; after each an event is open or queued, so the rupture drain is not
complete. -/
theorem hitJoinsEvent : Obligations.HitJoinsEvent := by
  intro d rest i e s hr hg hf hb hc hroom
  have hi : i < s.former.openSet.length := (List.getElem?_eq_some_iff.mp hc.get).1
  have hopen (e' : OpenEvent) : s.former.openSet.set i e' ≠ [] :=
    List.ne_nil_of_length_pos (by simpa using Nat.zero_lt_of_lt hi)
  have hexec : exec .hitPlacement s =
      .next ((s.updIntake fun i => { i with fifo := rest }).joinAt i e d).testRuptureDrain := by
    rw [exec_hitPlacement_eq hr hg hf, State.placeHit_chosen (s := s.updIntake _) hb hc,
      if_neg (Nat.not_le.2 hroom)]
  refine ⟨fun before after hrest hd hbefore hafter => ?later,
    fun hd => ⟨fun hwait => ?ahead, fun hdue => ?due⟩⟩
  case later =>
    rw [hexec, State.joinAt_later hrest hd hbefore hafter, State.testRuptureDrain_unfinished]
    · rfl
    · exact .inl (hopen _)
  case ahead =>
    rw [hexec, State.joinAt_earlier_open (s := s.updIntake _) hd hwait, State.testRuptureDrain_unfinished]
    · rfl
    · exact .inl (hopen _)
  case due =>
    rw [hexec, State.joinAt_earlier_closed (s := s.updIntake _) hi hd hdue, State.testRuptureDrain_unfinished]
    · rfl
    · exact .inr (State.closed_queue_ne_nil _ _ _)

end Sys2Proof.Machine
end

section
/-! The statements about the pressure history (chapter 4). -/

namespace Sys2Proof.Machine

/-! ### The two tests of the phase machine -/

/-- The model adds UNLOAD_DELTA to P where the rule takes it from the peak as a signed number (4.3). -/
theorem unloads_iff {q : Params} {peak p : Nat} :
    unloads q peak p = true ↔ (p : Int) ≤ (peak : Int) - q.unloadDelta := by
  unfold unloads
  rw [decide_eq_true_iff]
  omega

/-- The distance of two numbers is their difference taken without sign (4.3). -/
theorem absDiff_eq_natAbs (a b : Nat) : absDiff a b = ((a : Int) - b).natAbs := by
  unfold absDiff
  omega

theorem Monitor.inBand_iff {m : Monitor} {q : Params} {p : Nat} :
    m.inBand q p = true ↔ ((p : Int) - m.holdRef).natAbs ≤ q.holdBand := by
  rw [Monitor.inBand, decide_eq_true_iff, absDiff_eq_natAbs]

/-- Raising the cycle peak leaves the hold reference, so the band test after it is on the reference as it stood. -/
theorem Monitor.raisePeak_inBand_iff {m : Monitor} {q : Params} {p : Nat} :
    (m.raisePeak p).inBand q p = true ↔ ((p : Int) - m.holdRef).natAbs ≤ q.holdBand :=
  Monitor.inBand_iff

/-! ### The rule of each phase (R67) -/

section
variable {m : Monitor} (q : Params) (p : Nat)

theorem Monitor.samplePhase_of_noPressure (h : m.phase = .noPressure) :
    m.samplePhase q p = m.sampleNoPressure q p := by rw [Monitor.samplePhase, h]

theorem Monitor.samplePhase_of_loading (h : m.phase = .loading) :
    m.samplePhase q p = m.sampleLoading q p := by rw [Monitor.samplePhase, h]

theorem Monitor.samplePhase_of_holding (h : m.phase = .holding) :
    m.samplePhase q p = m.sampleHolding q p := by rw [Monitor.samplePhase, h]

theorem Monitor.samplePhase_of_unloading (h : m.phase = .unloading) :
    m.samplePhase q p = m.sampleUnloading q p := by rw [Monitor.samplePhase, h]

end

/-! ### The statement -/

/-- Settles O21: each clause is the path through the rule of its phase (R70 to R73) that its premises name, in the
order in which Table 4-2 makes the tests. -/
theorem phaseRules : Obligations.PhaseRules := by
  intro m q p unloadsAt inBand peak trough
  have hyes {k : Nat} (h : unloadsAt k) : unloads q k p = true := unloads_iff.mpr h
  have hno {k : Nat} (h : ¬unloadsAt k) : ¬unloads q k p = true := mt unloads_iff.mp h
  have hin (h : inBand) : (m.raisePeak p).inBand q p = true := Monitor.raisePeak_inBand_iff.mpr h
  have hout (h : ¬inBand) : ¬(m.raisePeak p).inBand q p = true := mt Monitor.raisePeak_inBand_iff.mp h
  refine ⟨fun hphase => ?noPressure, fun hphase => ?loading, fun hphase => ?holding, fun hphase => ?unloading⟩
  case noPressure =>
    rw [Monitor.samplePhase_of_noPressure q p hphase]
    exact ⟨fun hu => if_pos (hyes hu), fun hu => if_neg (hno hu)⟩
  case loading =>
    rw [Monitor.samplePhase_of_loading q p hphase]
    refine ⟨fun hu => ?unload, fun hu hb hcount => ?count, fun hu hb hcount => ?hold, fun hu hb => ?rebase⟩
    case unload => exact if_pos (hyes hu)
    case count => exact (if_neg (hno hu)).trans ((if_pos (hin hb)).trans (if_neg (Nat.not_le.mpr hcount)))
    case hold => exact (if_neg (hno hu)).trans ((if_pos (hin hb)).trans (if_pos hcount))
    case rebase => exact (if_neg (hno hu)).trans (if_neg (hout hb))
  case holding =>
    rw [Monitor.samplePhase_of_holding q p hphase]
    exact ⟨fun hb => if_pos (hin hb), fun hb hu => (if_neg (hout hb)).trans (if_pos (hyes hu)),
      fun hb hu => (if_neg (hout hb)).trans (if_neg (hno hu))⟩
  case unloading =>
    rw [Monitor.samplePhase_of_unloading q p hphase]
    exact ⟨fun hrise => if_pos hrise, fun hlow => if_neg (Nat.not_le.mpr hlow)⟩

end Sys2Proof.Machine
end

section
/-! The operations of the part that are none of the Command Port's, each by the port it leaves: the one it found. -/

namespace Sys2Proof.Machine

/-! ### Hit intake (chapter 1) -/

section
variable (s : State) (l : Lane)

@[simp] theorem State.updLane_port (f : LaneReceiver → LaneReceiver) : (s.updLane l f).port = s.port := rfl
@[simp] theorem State.setLaneState_port (st : LaneState) : (s.setLaneState l st).port = s.port := rfl
@[simp] theorem State.setLanes_port (st : LaneState) : (s.setLanes st).port = s.port := rfl
@[simp] theorem State.latchQueueDrop_port : s.latchQueueDrop.port = s.port := rfl
@[simp] theorem State.laneError_port : (s.laneError l).port = s.port := rfl

@[simp] theorem State.offerDescriptor_port (d : Descriptor) : (s.offerDescriptor d).port = s.port := by
  rcases s.offerDescriptor_cases d with ⟨-, h⟩ | ⟨-, h⟩ <;> simp [h]

@[simp] theorem State.serveLane_port : (s.serveLane l).port = s.port := by
  rcases s.serveLane_cases l with ⟨-, h⟩ | ⟨d, -, h⟩ <;> simp [h]

@[simp] theorem State.mergeServe_port : s.mergeServe.port = s.port := by
  unfold State.mergeServe
  split <;> simp

@[simp] theorem State.fillSlot_port (d : Descriptor) : (s.fillSlot l d).port = s.port := by
  simp [State.fillSlot]

@[simp] theorem State.hitFrame_port (c : Channel) (bytes : List Byte) : (s.hitFrame l c bytes).port = s.port := by
  unfold State.hitFrame
  split
  · rfl
  · dsimp only
    split <;> simp

@[simp] theorem State.faultFrame_port (c : Channel) (code : Byte) : (s.faultFrame l c code).port = s.port := by
  unfold State.faultFrame
  split <;> simp

@[simp] theorem State.completeFrame_port (fr : LaneFrame) : (s.completeFrame l fr).port = s.port := by
  unfold State.completeFrame
  split
  · split <;> simp
  · rfl

@[simp] theorem State.openFrame_port (kind : FrameKind) (c : Channel) : (s.openFrame l kind c).port = s.port := by
  unfold State.openFrame
  split <;> simp

@[simp] theorem State.examineHeader_port (b : Byte) : (s.examineHeader l b).port = s.port := by
  unfold State.examineHeader
  split <;> simp

@[simp] theorem State.laneHeader_port (b : Byte) : (s.laneHeader l b).port = s.port := by
  unfold State.laneHeader
  split <;> simp

@[simp] theorem State.laneData_port (b : Byte) : (s.laneData l b).port = s.port := by
  unfold State.laneData
  split
  · dsimp only
    split <;> simp
  · rfl

@[simp] theorem State.takeHitCharacter_port (ch : Character) : (s.takeHitCharacter l ch).port = s.port := by
  unfold State.takeHitCharacter
  split
  · split <;> simp
  · rfl

@[simp] theorem State.endRestart_port : s.endRestart.port = s.port := by
  unfold State.endRestart
  split <;> simp

@[simp] theorem State.endSettle_port : s.endSettle.port = s.port := by
  unfold State.endSettle
  split <;> simp

@[simp] theorem State.startRestart_port : s.startRestart.port = s.port := rfl

end

/-! ### Event Former (chapter 2) and the drains (R160, R164) -/

section
variable (s : State)

@[simp] theorem State.enterFrozen_port : s.enterFrozen.port = s.port := rfl

@[simp] theorem State.testRequestedDrain_port : s.testRequestedDrain.port = s.port := by
  rcases s.testRequestedDrain_cases with ⟨-, -, -, h⟩ | h <;> simp [h]

@[simp] theorem State.testRuptureDrain_port : s.testRuptureDrain.port = s.port := by
  rcases s.testRuptureDrain_cases with ⟨-, -, -, h⟩ | h <;> simp [h]

@[simp] theorem State.offerEvent_port (ev : LocatedEvent) : (s.offerEvent ev).port = s.port := by
  rcases s.offerEvent_cases ev with ⟨-, h⟩ | ⟨-, h⟩ <;> simp [h]

@[simp] theorem State.closeEvent_port (e : OpenEvent) : (s.closeEvent e).port = s.port := by
  simp [State.closeEvent]

@[simp] theorem State.closeAt_port (i : Nat) (early : Bool) : (s.closeAt i early).port = s.port := by
  rcases s.closeAt_cases i early with ⟨-, h⟩ | ⟨e, -, h⟩ <;> simp [h]

@[simp] theorem State.joinAt_port (i : Nat) (e : OpenEvent) (d : Descriptor) :
    (s.joinAt i e d).port = s.port := by
  unfold State.joinAt
  dsimp only
  split <;> simp

@[simp] theorem State.earlyClose_port : s.earlyClose.port = s.port := by
  unfold State.earlyClose
  split
  · split <;> simp
  · rfl

@[simp] theorem State.openEvent_port (d : Descriptor) : (s.openEvent d).port = s.port := by
  simp [State.openEvent]

@[simp] theorem State.placeHit_port (d : Descriptor) : (s.placeHit d).port = s.port := by
  rcases s.placeHit_cases d with ⟨-, h⟩ | ⟨-, i, -, ⟨-, h⟩ | ⟨e, -, ⟨-, h⟩ | ⟨-, h⟩⟩⟩ | ⟨-, -, hnew⟩
  · simp [h]
  · simp [h]
  · simp [h]
  · simp [h]
  · rcases hnew with ⟨-, h⟩ | ⟨-, h⟩ <;> simp [h]

@[simp] theorem State.takeHit_port : s.takeHit.port = s.port := by
  unfold State.takeHit
  split <;> simp

@[simp] theorem State.expireEvent_port : s.expireEvent.port = s.port := by
  unfold State.expireEvent
  split <;> simp

end

/-! ### Pressure (chapter 4) -/

section
variable (s : State)

@[simp] theorem State.latchRupture_port : s.latchRupture.port = s.port := by
  simp [State.latchRupture, State.stopSweepTimer]

@[simp] theorem State.takeSample_port (pressure : Nat) (b : Byte) : (s.takeSample pressure b).port = s.port := by
  rcases s.takeSample_cases pressure b with ⟨-, h⟩ | ⟨-, t, ⟨rfl, -⟩ | ⟨rfl, -⟩, h⟩ <;> simp [h]

@[simp] theorem State.testSampleTimeout_port : s.testSampleTimeout.port = s.port := by
  rcases s.testSampleTimeout_cases with ⟨-, h⟩ | ⟨-, h⟩ <;> simp [h, State.expireSample]

@[simp] theorem State.setPlinState_port (st : PlinState) : (s.setPlinState st).port = s.port := rfl
@[simp] theorem State.plinError_port : s.plinError.port = s.port := rfl

@[simp] theorem State.examinePlinHeader_port (b : Byte) : (s.examinePlinHeader b).port = s.port := by
  unfold State.examinePlinHeader
  split <;> simp

@[simp] theorem State.plinHeader_port (b : Byte) : (s.plinHeader b).port = s.port := by
  unfold State.plinHeader
  split <;> simp

@[simp] theorem State.plinData_port (b : Byte) : (s.plinData b).port = s.port := by
  unfold State.plinData
  split
  · dsimp only
    split <;> simp
  · rfl

@[simp] theorem State.takePlinCharacter_port (ch : Character) : (s.takePlinCharacter ch).port = s.port := by
  unfold State.takePlinCharacter
  split <;> simp

end

/-! ### Folds, sweeps and table work (chapters 5 to 8) -/

section
variable (s : State)

@[simp] theorem State.beginGrant_port (r : Requester) (tookEntry endsPass : Bool) :
    (s.beginGrant r tookEntry endsPass).port = s.port := rfl
@[simp] theorem State.raiseZone_port (c : Channel) (g : Nat) : (s.raiseZone c g).port = s.port := rfl
@[simp] theorem State.leaveUnplaced_port : s.leaveUnplaced.port = s.port := rfl
@[simp] theorem State.chargeZone_port (c : Channel) : (s.chargeZone c).port = s.port := rfl
@[simp] theorem State.endPass_port : s.endPass.port = s.port := rfl
@[simp] theorem State.lowerBacklog_port : s.lowerBacklog.port = s.port := rfl
@[simp] theorem State.loadSweepTimer_port : s.loadSweepTimer.port = s.port := rfl
@[simp] theorem State.countOperation_port (op : Operation) : (s.countOperation op).port = s.port := rfl

@[simp] theorem State.settleRecord_port (slot : Nat) (r : SourceRecord) (found : Nat) :
    (s.settleRecord slot r found).port = s.port := by
  rcases s.settleRecord_cases slot r found with ⟨-, -, h⟩ | ⟨-, h⟩ <;> simp [h]

@[simp] theorem State.foldRecordPath_port (e : LocatedEvent) : (s.foldRecordPath e).port = s.port := by
  rcases s.foldRecordPath_cases e with ⟨slot, r, -, h⟩ | ⟨room, -, -, h⟩ | ⟨-, -, h⟩ <;> simp [h]

@[simp] theorem State.foldEvent_port (e : LocatedEvent) : (s.foldEvent e).port = s.port := by
  unfold State.foldEvent
  split <;> simp

@[simp] theorem State.grantFold_port : s.grantFold.port = s.port := by
  unfold State.grantFold
  split
  · rfl
  · split <;> simp

@[simp] theorem State.buildZone_port (r : SourceRecord) : (s.buildZone r).port = s.port := by
  unfold State.buildZone
  split <;> simp

@[simp] theorem State.visitSlot_port (slot : Nat) : (s.visitSlot slot).port = s.port := by
  rcases s.visitSlot_cases slot with ⟨-, h⟩ | ⟨r, -, ⟨-, h⟩ | ⟨-, h⟩⟩ <;> simp [h]

@[simp] theorem State.visitSlots_port (slot n : Nat) : (s.visitSlots slot n).port = s.port := by
  induction n generalizing s slot with
  | zero => rfl
  | succ n ih => rw [State.visitSlots, ih, State.visitSlot_port]

@[simp] theorem State.grantSweep_port : s.grantSweep.port = s.port := by
  unfold State.grantSweep State.slice
  dsimp only
  split <;> simp

@[simp] theorem State.performWork_port (work : TableWork) : (s.performWork work).state.port = s.port :=
  (s.performWork_frame work).2.1

@[simp] theorem State.acquireLock_port (hold : Bool) : (s.acquireLock hold).port = s.port := by
  rcases s.acquireLock_cases hold with ⟨-, -, h⟩ | ⟨-, h⟩ <;> simp [h]

@[simp] theorem State.forceRelease_port : s.forceRelease.port = s.port := rfl

@[simp] theorem State.testLockExpiry_port : s.testLockExpiry.port = s.port := by
  rcases s.testLockExpiry_cases with ⟨-, h⟩ | ⟨-, h⟩ | ⟨-, h⟩ <;> simp [h]

@[simp] theorem State.expireSweepTimer_port : s.expireSweepTimer.port = s.port := by
  unfold State.expireSweepTimer State.owePass
  split
  · split <;> simp
  · rfl

@[simp] theorem State.finishOperation_port (op : Operation) : (s.finishOperation op).port = s.port := by
  unfold State.finishOperation
  dsimp only
  split <;> simp

end

/-! ### Run control, the timebase and the annunciator (chapters 1, 9 and 10) -/

section
variable (s : State)

@[simp] theorem State.abortOpenEvents_port : s.abortOpenEvents.port = s.port := rfl
@[simp] theorem State.abandonSweep_port : s.abandonSweep.port = s.port := rfl
@[simp] theorem State.releaseLock_port : s.releaseLock.port = s.port := rfl
@[simp] theorem State.stopRun_port : s.stopRun.port = s.port := rfl
@[simp] theorem State.thawRun_port : s.thawRun.port = s.port := rfl
@[simp] theorem State.tick_port : s.tick.port = s.port := rfl

@[simp] theorem State.startRun_port : s.startRun.port = s.port := by
  unfold State.startRun
  dsimp only
  split <;> simp

@[simp] theorem State.freezeRun_port : s.freezeRun.port = s.port := by
  simp [State.freezeRun, State.stopSweepTimer]

@[simp] theorem State.resetEngine_port : s.resetEngine.port = s.port := by
  unfold State.resetEngine
  dsimp only
  split <;> simp

@[simp] theorem State.startFrame_port : s.startFrame.port = s.port := by
  unfold State.startFrame
  split <;> rfl

@[simp] theorem State.annEnableWritten_port (before : Nat) : (s.annEnableWritten before).port = s.port := by
  unfold State.annEnableWritten
  split
  · rfl
  · split <;> rfl

end

end Sys2Proof.Machine
end

section
/-! The statements about the Command Port (chapter 11): the view base. -/

namespace Sys2Proof.Machine

/-! ### The port's own operations, by the view base they leave -/

section
variable (s : State) (hold : Bool)

@[simp] theorem State.clockFiller_view (n : Nat) : (s.clockFiller n).port.view = s.port.view := rfl
@[simp] theorem State.collide_view : s.collide.port.view = s.port.view := rfl
@[simp] theorem State.await_view (work : TableWork) : (s.await hold work).port.view = s.port.view := rfl

@[simp] theorem State.awaitCell_view (f : Frame) (work : CellKey → TableWork) :
    (s.awaitCell f work).port.view = s.port.view := by
  unfold State.awaitCell
  split <;> simp

/-- A request frame keeps the view base where its content does (R176, R179). -/
theorem State.takeRequest_view {content : State → State} (hc : ∀ u, (content u).port.view = u.port.view)
    (code : Nat) (f : Frame) : (s.takeRequest code f content).port.view = s.port.view := by
  rcases s.takeRequest_cases code f content with ⟨-, h⟩ | ⟨-, -, h⟩ | ⟨-, -, h⟩ <;> simp [h, hc]

@[simp] theorem State.takeUnknown_view (bytes : List Byte) : (s.takeUnknown bytes).port.view = s.port.view := by
  unfold State.takeUnknown
  split
  · rfl
  · dsimp only
    split <;> simp

@[simp] theorem State.readResponse_view (n : Nat) (overtaken : Bool) :
    (s.readResponse n overtaken).port.view = s.port.view := by
  unfold State.readResponse
  split
  · rfl
  · split
    · rfl
    · dsimp only
      split <;> rfl

/-! ### Grants and completions -/

@[simp] theorem State.grant_view (r : Requester) : (s.grant r).port.view = s.port.view := by
  cases r with
  | fold => simp [State.grant]
  | sweep => simp [State.grant]
  | port =>
    unfold State.grant State.grantRequest
    dsimp only
    split <;> simp [State.grantPort]

@[simp] theorem State.grantOwed_view : s.grantOwed.port.view = s.port.view := by
  unfold State.grantOwed
  split <;> simp

@[simp] theorem State.completePort_view : s.completePort.port.view = s.port.view := by
  have hreleased : (if s.arbiter.breaking then s.forceRelease else s).port = s.port := by
    split <;> rfl
  unfold State.completePort
  dsimp only
  split <;> simp [hreleased]

@[simp] theorem State.completeBackground_view (op : Operation) :
    (s.completeBackground op).port.view = s.port.view := by
  unfold State.completeBackground
  dsimp only
  split <;> simp

@[simp] theorem State.completeOperation_view : s.completeOperation.port.view = s.port.view := by
  rcases s.completeOperation_cases with ⟨-, h⟩ | ⟨op, -, -, h⟩ | ⟨op, -, -, h⟩ <;> simp [h]

/-! ### The contents of the requests -/

@[simp] theorem State.requestStart_view : (s.requestStart hold).port.view = s.port.view := by
  unfold State.requestStart
  split <;> simp

@[simp] theorem State.requestStop_view : (s.requestStop hold).port.view = s.port.view := by
  unfold State.requestStop
  split
  · simp
  · split <;> simp

@[simp] theorem State.requestFreeze_view : (s.requestFreeze hold).port.view = s.port.view := by
  unfold State.requestFreeze
  split <;> simp

@[simp] theorem State.requestThaw_view : (s.requestThaw hold).port.view = s.port.view := by
  unfold State.requestThaw
  split <;> simp

@[simp] theorem State.requestEngineReset_view : (s.requestEngineReset hold).port.view = s.port.view := by
  unfold State.requestEngineReset
  split <;> simp

@[simp] theorem State.requestRestart_view : (s.requestRestart hold).port.view = s.port.view := by
  simp [State.requestRestart]

@[simp] theorem State.requestStatus_view : (s.requestStatus hold).port.view = s.port.view := by
  simp [State.requestStatus]

@[simp] theorem State.requestCounters_view (f : Frame) : (s.requestCounters f).port.view = s.port.view := by
  have hcleared : (if f.clear then s.clearCounters else s).port = s.port := by
    split <;> rfl
  simp [State.requestCounters, hcleared]

@[simp] theorem State.requestConfigRead_view (f : Frame) : (s.requestConfigRead f).port.view = s.port.view := by
  unfold State.requestConfigRead
  split <;> simp

@[simp] theorem State.storeParam_port (p : Param) (value : Nat) : (s.storeParam p value).port = s.port := rfl

@[simp] theorem State.answerWrite_view (before : State) (p : Param) (value : Nat) :
    (s.answerWrite before hold p value).port.view = s.port.view := by
  simp [State.answerWrite]

@[simp] theorem State.writeGeometry_view (g : GeometryParam) (value : Nat) :
    (s.writeGeometry hold g value).port.view = s.port.view := by
  unfold State.writeGeometry
  split <;> simp

@[simp] theorem State.writeSampleTimeout_view (value : Nat) :
    (s.writeSampleTimeout hold value).port.view = s.port.view := by
  simp [State.writeSampleTimeout]

@[simp] theorem State.writeLockLimit_view (value : Nat) :
    (s.writeLockLimit hold value).port.view = s.port.view := by
  simp [State.writeLockLimit]

@[simp] theorem State.writeAnnEnable_view (value : Nat) :
    (s.writeAnnEnable hold value).port.view = s.port.view := by
  simp [State.writeAnnEnable]

@[simp] theorem State.writeParam_view (p : Param) (value : Nat) :
    (s.writeParam hold p value).port.view = s.port.view := by
  unfold State.writeParam
  split <;> simp

@[simp] theorem State.requestConfigWrite_view (f : Frame) : (s.requestConfigWrite f).port.view = s.port.view := by
  unfold State.requestConfigWrite
  split <;> simp

@[simp] theorem State.requestSensorRead_view (f : Frame) : (s.requestSensorRead f).port.view = s.port.view := by
  unfold State.requestSensorRead
  split <;> simp

@[simp] theorem State.requestSensorWrite_view (f : Frame) : (s.requestSensorWrite f).port.view = s.port.view := by
  unfold State.requestSensorWrite
  split
  · simp
  · split
    · simp
    · split <;> simp

@[simp] theorem State.requestLookup_view (f : Frame) : (s.requestLookup f).port.view = s.port.view := by
  simp [State.requestLookup]

@[simp] theorem State.requestScan_view (f : Frame) : (s.requestScan f).port.view = s.port.view := by
  unfold State.requestScan
  split <;> simp

@[simp] theorem State.requestChanges_view (f : Frame) : (s.requestChanges f).port.view = s.port.view := by
  simp [State.requestChanges]

@[simp] theorem State.requestSeed_view (f : Frame) : (s.requestSeed f).port.view = s.port.view := by
  unfold State.requestSeed
  split <;> simp

@[simp] theorem State.requestMark_view (f : Frame) : (s.requestMark f).port.view = s.port.view := by
  unfold State.requestMark
  split <;> simp

@[simp] theorem State.requestClearStats_view (f : Frame) : (s.requestClearStats f).port.view = s.port.view := by
  simp [State.requestClearStats]

@[simp] theorem State.requestRetire_view (f : Frame) : (s.requestRetire f).port.view = s.port.view := by
  simp [State.requestRetire]

end

/-! ### Commands -/

/-- The outcome keeps the view base of a state. -/
def KeepsView (s : State) (o : Host.Outcome State Fault Refusal) : Prop :=
  ∀ t, o = .next t → t.port.view = s.port.view

/-- RESETn asserted leaves the state, and so its view base, as it is. -/
theorem keepsView_whileReleased {s u : State} (hu : u.port.view = s.port.view) :
    KeepsView s (whileReleased s u) := by
  intro t ht
  rcases whileReleased_cases s u with ⟨-, h⟩ | ⟨-, h⟩ <;> rw [h] at ht <;> cases ht
  · rfl
  · exact hu

/-- A command that keeps the view base does so after a grant that is owed, too. -/
theorem keepsView_afterGrant (s : State) {command : State → State}
    (hc : ∀ u, (command u).port.view = u.port.view) : KeepsView s (afterGrant s command) :=
  keepsView_whileReleased ((hc _).trans s.grantOwed_view)

theorem keepsView_offering (s : State) {command : State → State}
    (hc : ∀ u, (command u).port.view = u.port.view) : KeepsView s (offering s command) := by
  rcases offering_cases s command with ⟨-, h⟩ | ⟨-, h⟩ <;> rw [h]
  · exact keepsView_afterGrant s hc
  · exact keepsView_whileReleased (hc s)

/-- A request frame's command keeps the view base where its content does. -/
theorem keepsView_request (s : State) (code : Nat) (f : Frame) {content : State → State}
    (hc : ∀ u, (content u).port.view = u.port.view) :
    KeepsView s (afterGrant s fun s => s.takeRequest code f content) :=
  keepsView_afterGrant s fun u => u.takeRequest_view hc code f

theorem keepsView_plinDataCharacter (ch : Character) (s : State) :
    KeepsView s (execPlinDataCharacter ch s) := by
  rcases execPlinDataCharacter_cases ch s with ⟨-, -, h⟩ | ⟨-, h⟩ <;> rw [h]
  · exact keepsView_whileReleased (by simp)
  · exact keepsView_afterGrant s fun u => by simp

/-- A grant command keeps the view base, whether or not its requester is chosen. -/
theorem keepsView_grant (s : State) (r : Requester) :
    KeepsView s (whileReleased s (if s.grantChoice = some r then s.grant r else s)) := by
  refine keepsView_whileReleased ?_
  split <;> simp

/-- Every command but RESETn's own and SET VIEW keeps the view base (R181). -/
theorem exec_keepsView {c : Instr} (s : State) (hreset : c ≠ .reset) (hrelease : c ≠ .resetnRelease)
    (hview : ∀ f, c ≠ .setView f) : KeepsView s (exec c s) := by
  cases c
  case reset => exact absurd rfl hreset
  case resetnRelease => exact absurd rfl hrelease
  case setView f => exact absurd rfl (hview f)
  case hitPlacement | eventExpiry => exact keepsView_offering s fun u => by simp
  case plinDataCharacter ch => exact keepsView_plinDataCharacter ch s
  case fold => exact keepsView_grant s .fold
  case sweepSlice => exact keepsView_grant s .sweep
  case portGrant => exact keepsView_grant s .port
  case lockExpiry | annunciatorFrameStart => exact keepsView_whileReleased (by simp)
  case lowTicksWrap =>
    refine keepsView_afterGrant (command := fun u => if u.wrapNext then u.tick else u) s fun u => ?_
    split <;> simp
  case hitLaneHeader l ch | hitLaneDataCharacter l ch | hitLaneCharacterError l ch =>
    exact keepsView_afterGrant (command := (·.takeHitCharacter l ch)) s fun u => by simp
  case plinHeader ch | plinCharacterError ch =>
    exact keepsView_afterGrant (command := (·.takePlinCharacter ch)) s fun u => by simp
  case mergeServe => exact keepsView_afterGrant (command := State.mergeServe) s fun u => by simp
  case restartCountExpiry => exact keepsView_afterGrant (command := State.endRestart) s fun u => by simp
  case settleCountExpiry => exact keepsView_afterGrant (command := State.endSettle) s fun u => by simp
  case sampleTimeoutExpiry => exact keepsView_afterGrant (command := State.testSampleTimeout) s fun u => by simp
  case sweepTimerExpiry => exact keepsView_afterGrant (command := State.expireSweepTimer) s fun u => by simp
  case operationCompletion => exact keepsView_afterGrant (command := State.completeOperation) s fun u => by simp
  case requestedDrainEnd => exact keepsView_afterGrant (command := State.testRequestedDrain) s fun u => by simp
  case ruptureDrainEnd => exact keepsView_afterGrant (command := State.testRuptureDrain) s fun u => by simp
  case responseRead r =>
    exact keepsView_afterGrant (command := (·.readResponse r.bytes r.overtaken)) s fun u => by simp
  case unknownRequestCode bytes =>
    exact keepsView_afterGrant (command := (·.takeUnknown bytes)) s fun u => by simp
  all_goals exact keepsView_request s _ _ fun u => by simp

/-! ### SET VIEW -/

section
variable {s : State} {f : Frame}

theorem State.requestSetView_inGrid (hl : f.long = true)
    (hk : s.params.inGrid { axial := f.byteAt 0, circ := f.byteAt 1 } = true) :
    s.requestSetView f =
      (s.updPort fun p => { p with view := { axial := f.byteAt 0, circ := f.byteAt 1 } }).respond f.hold .ok
        (.view { axial := f.byteAt 0, circ := f.byteAt 1 }) := by
  simp only [State.requestSetView, Params.resolveLong, hl, hk, if_true]

theorem State.requestSetView_outOfGrid (hl : f.long = true)
    (hk : s.params.inGrid { axial := f.byteAt 0, circ := f.byteAt 1 } = false) :
    s.requestSetView f = s.respond f.hold .outOfGrid .none := by
  simp only [State.requestSetView, Params.resolveLong, hl, hk, if_true, Bool.false_eq_true, if_false]

theorem State.requestSetView_short (hl : f.long = false) :
    s.requestSetView f = s.respond f.hold .ignored (.view s.port.view) := by
  simp only [State.requestSetView, hl, Bool.false_eq_true, if_false]

/-- A ready port takes a SET VIEW frame of the right form by its content, in whatever run state (R181). -/
theorem exec_setView_content (hr : s.portReady = true) (hf : formOk 0x16 f = true) :
    exec (.setView f) s = .next ((s.clockFiller (3 + f.payload.length)).requestSetView f) :=
  takeRequest_content hr hf

end

/-- Settles O44: the three answers of SET VIEW are the branches of its content, the reset value is the model's, and
no other command changes the view base. -/
theorem viewBaseRule : Obligations.ViewBaseRule := by
  refine ⟨fun f s hr hf => ⟨fun hl hk => ?inGrid, fun hl hk => ?outOfGrid, fun hl => ?short⟩, rfl,
    fun c s t ht hreset hrelease hview => exec_keepsView s hreset hrelease hview t ht⟩
  case inGrid =>
    rw [exec_setView_content hr hf, State.requestSetView_inGrid (s := s.clockFiller _) hl hk]
    exact congrArg _ (State.respond_clockFiller { s with port := { s.port with view := _ } } f _ _)
  case outOfGrid =>
    rw [exec_setView_content hr hf, State.requestSetView_outOfGrid (s := s.clockFiller _) hl hk,
      State.respond_clockFiller]
  case short =>
    rw [exec_setView_content hr hf, State.requestSetView_short hl, State.respond_clockFiller,
      State.clockFiller_view]

end Sys2Proof.Machine
end

section
/-! What a step can do, said once for the laws that every step keeps: the work of each command by name, with the facts
under which it is done, and the induction step that every law shares. -/

namespace Sys2Proof.Machine

/-! ### Requests -/

/-- What a request makes of the part before its answer (chapters 4, 8, 9 and 11). -/
inductive State.Effect (s : State) : State → Prop
  | unchanged : s.Effect s
  | started (h : s.run.state = .setup) : s.Effect s.startRun
  | stopped : s.Effect s.stopRun
  | freezes (h : s.run.state = .listening) : s.Effect s.freezeRun
  | thaws (h : s.boundary = true) : s.Effect s.thawRun
  | engineReset : s.Effect s.resetEngine
  | restarts : s.Effect s.startRestart.testRuptureDrain
  | latches (f : Latches → Latches) : s.Effect (s.updLatches f)
  | clears : s.Effect s.clearCounters
  | stores (p : Param) (value : Nat) (h : ∀ g, p ≠ .geometry g) : s.Effect (s.storeParam p value)
  | sampleTimeout (value : Nat) : s.Effect (s.storeParam .sampleTimeout value).testSampleTimeout
  | lockLimit (value : Nat) : s.Effect (s.storeParam .lockLimit value).testLockExpiry
  | annEnable (value : Nat) :
      s.Effect ((s.storeParam .annEnable value).annEnableWritten s.params.annEnable)
  | views (k : CellKey) : s.Effect (s.updPort fun p => { p with view := k })

/-- How a request frame that is well formed ends: answered, waiting for its grant, or waiting for the fold or slice
in progress (R154, R176, R188). -/
inductive State.Outcome (s : State) : State → Prop
  | answered {t : State} (h : s.Effect t) (hold : Bool) (status : Status) (payload : Payload) :
      s.Outcome (t.respond hold status payload)
  | waits (hold : Bool) (work : TableWork)
      (h : ∀ c e, work = .sensor c e → s.sensorConflict c e = false) : s.Outcome (s.await hold work)
  | defers (hold : Bool) (stage : RequestStage) (h : stage = .stop ∨ stage = .engineReset) :
      s.Outcome (s.updPort fun p => { p with request := some { hold := hold, stage := stage } })

namespace State.Outcome
variable {s : State}

/-- A request that is answered and changes nothing. -/
theorem refused (s : State) (hold : Bool) (status : Status) (payload : Payload) :
    s.Outcome (s.respond hold status payload) :=
  answered .unchanged hold status payload

/-- A table request that is no SENSOR WRITE waits. -/
theorem await {work : TableWork} (s : State) (hold : Bool) (h : ∀ c e, work ≠ .sensor c e) :
    s.Outcome (s.await hold work) :=
  waits hold work fun c e hw => absurd hw (h c e)

theorem start (s : State) (hold : Bool) : s.Outcome (s.requestStart hold) := by
  unfold State.requestStart
  split
  · next h => exact answered (.started h.1) _ _ _
  · exact refused s _ _ _

theorem stop (s : State) (hold : Bool) : s.Outcome (s.requestStop hold) := by
  unfold State.requestStop
  split
  · exact refused s _ _ _
  · split
    · exact defers _ _ (.inl rfl)
    · exact answered .stopped _ _ _

theorem freeze (s : State) (hold : Bool) : s.Outcome (s.requestFreeze hold) := by
  unfold State.requestFreeze
  split
  · exact refused s _ _ _
  · next h => exact answered (.freezes h) _ _ _
  · exact refused s _ _ _
  · exact refused s _ _ _

theorem thaw (s : State) (hold : Bool) : s.Outcome (s.requestThaw hold) := by
  unfold State.requestThaw
  split
  · next h => exact answered (.thaws h) _ _ _
  · exact refused s _ _ _

theorem engineReset (s : State) (hold : Bool) : s.Outcome (s.requestEngineReset hold) := by
  unfold State.requestEngineReset
  split
  · exact defers _ _ (.inr rfl)
  · exact answered .engineReset _ _ _

theorem counters (s : State) (f : Frame) : s.Outcome (s.requestCounters f) := by
  unfold State.requestCounters
  dsimp only
  split
  · exact answered .clears _ _ _
  · exact refused s _ _ _

theorem configRead (s : State) (f : Frame) : s.Outcome (s.requestConfigRead f) := by
  unfold State.requestConfigRead
  split <;> exact refused s _ _ _

theorem geometry (s : State) (hold : Bool) (g : GeometryParam) (value : Nat) :
    s.Outcome (s.writeGeometry hold g value) := by
  unfold State.writeGeometry
  split
  · exact await s hold nofun
  · exact refused s _ _ _

theorem sampleTimeout (s : State) (hold : Bool) (value : Nat) :
    s.Outcome (s.writeSampleTimeout hold value) :=
  answered (.sampleTimeout value) _ _ _

theorem lockLimit (s : State) (hold : Bool) (value : Nat) : s.Outcome (s.writeLockLimit hold value) :=
  answered (.lockLimit value) _ _ _

theorem annEnable (s : State) (hold : Bool) (value : Nat) : s.Outcome (s.writeAnnEnable hold value) :=
  answered (.annEnable value) _ _ _

theorem writeParam (s : State) (hold : Bool) (p : Param) (value : Nat) :
    s.Outcome (s.writeParam hold p value) := by
  unfold State.writeParam
  split
  · exact geometry s _ _ _
  · exact sampleTimeout s _ _
  · exact lockLimit s _ _
  · exact annEnable s _ _
  · next h _ _ _ => exact answered (.stores p value h) _ _ _

theorem configWrite (s : State) (f : Frame) : s.Outcome (s.requestConfigWrite f) := by
  unfold State.requestConfigWrite
  split
  · exact writeParam s _ _ _
  · exact refused s _ _ _

theorem sensorRead (s : State) (f : Frame) : s.Outcome (s.requestSensorRead f) := by
  unfold State.requestSensorRead
  split <;> exact refused s _ _ _

theorem sensorWrite (s : State) (f : Frame) : s.Outcome (s.requestSensorWrite f) := by
  unfold State.requestSensorWrite
  split
  · exact refused s _ _ _
  · split
    · exact refused s _ _ _
    · split
      · exact refused s _ _ _
      · next h =>
        refine waits _ _ fun c e hw => ?_
        cases hw
        simpa using h

theorem setView (s : State) (f : Frame) : s.Outcome (s.requestSetView f) := by
  unfold State.requestSetView
  split
  · split
    · exact answered (.views _) _ _ _
    · exact refused s _ _ _
  · exact refused s _ _ _

theorem awaitCell (s : State) (f : Frame) {work : CellKey → TableWork} (h : ∀ k c e, work k ≠ .sensor c e) :
    s.Outcome (s.awaitCell f work) := by
  unfold State.awaitCell
  split
  · exact await s _ (h _)
  · exact refused s _ _ _

theorem scan (s : State) (f : Frame) : s.Outcome (s.requestScan f) := by
  unfold State.requestScan
  split
  · exact refused s _ _ _
  · exact awaitCell s f nofun

theorem seed (s : State) (f : Frame) : s.Outcome (s.requestSeed f) := by
  unfold State.requestSeed
  split
  · exact refused s _ _ _
  · exact awaitCell s f nofun

theorem mark (s : State) (f : Frame) : s.Outcome (s.requestMark f) := by
  unfold State.requestMark
  split
  · exact awaitCell s f nofun
  · exact refused s _ _ _

end State.Outcome

/-! ### Commands -/

/-- The work of a command (chapters 1 to 11): a grant to the requester that is chosen, an event of the part, or a
frame at the port. -/
inductive State.Does (s : State) : State → Prop
  | nothing : s.Does s
  | grant {r : Requester} (h : s.grantChoice = some r) : s.Does (s.grant r)
  | tick : s.Does s.tick
  | hitCharacter (l : Lane) (ch : Character) : s.Does (s.takeHitCharacter l ch)
  | merge : s.Does s.mergeServe
  | endRestart : s.Does s.endRestart
  | endSettle : s.Does s.endSettle
  | takeHit : s.Does s.takeHit
  | expireEvent : s.Does s.expireEvent
  | plinCharacter (ch : Character) : s.Does (s.takePlinCharacter ch)
  | sampleTimeout : s.Does s.testSampleTimeout
  | sweepTimer : s.Does s.expireSweepTimer
  | complete : s.Does s.completeOperation
  | requestedDrain : s.Does s.testRequestedDrain
  | ruptureDrain : s.Does s.testRuptureDrain
  | lockExpiry : s.Does s.testLockExpiry
  | frameStart : s.Does s.startFrame
  | collides (n : Nat) : s.Does (s.clockFiller n).collide
  | requests {t : State} (n : Nat) (hb : s.portBusy = false) (h : (s.clockFiller n).Outcome t) : s.Does t
  | reads (n : Nat) (overtaken : Bool) : s.Does (s.readResponse n overtaken)

/-- A request frame collides, is answered BAD_REQUEST, or does what its content does (R176). -/
theorem State.takeRequest_does (s : State) (code : Nat) (f : Frame) {content : State → State}
    (hc : ∀ u : State, u.Outcome (content u)) : s.Does (s.takeRequest code f content) := by
  rcases s.takeRequest_cases code f content with ⟨-, h⟩ | ⟨hb, -, h⟩ | ⟨hb, -, h⟩ <;> rw [h]
  · exact .collides _
  · exact .requests _ hb (.refused _ _ _ _)
  · exact .requests _ hb (hc _)

theorem State.takeUnknown_does (s : State) (bytes : List Byte) : s.Does (s.takeUnknown bytes) := by
  unfold State.takeUnknown
  split
  · exact .nothing
  · dsimp only
    split
    · exact .collides _
    · next h => exact .requests _ (Bool.eq_false_iff.mpr h) (.refused _ _ _ _)

/-- A law of the state that RESET meets, that no command of the queue is part of, and that every work keeps. -/
structure StepLaw (L : State → Prop) : Prop where
  reset : ∀ l a, L { State.reset with pending := l, resetAsserted := a }
  queue : ∀ s l, L s → L { s with pending := l }
  work : ∀ {s t}, s.Does t → L s → L t

/-- A command leaves the state of its work, or the state it found (R1). -/
theorem whileReleased_keeps {L : State → Prop} {s t u : State} (hu : L s → L u) (hs : L s)
    (ht : whileReleased s u = .next t) : L t := by
  rcases whileReleased_cases s u with ⟨-, e⟩ | ⟨-, e⟩ <;> rw [e] at ht <;> cases ht
  · exact hs
  · exact hu hs

namespace StepLaw
variable {L : State → Prop} {s t : State}

/-- The grant that is owed is the work of its requester (R144). -/
theorem grantOwed_keeps (h : StepLaw L) (hs : L s) : L s.grantOwed := by
  unfold State.grantOwed
  split
  · next hr => exact h.work (.grant hr) hs
  · exact hs

theorem afterGrant_keeps (h : StepLaw L) {f : State → State} (hf : ∀ u : State, u.Does (f u)) (hs : L s)
    (ht : afterGrant s f = .next t) : L t :=
  whileReleased_keeps (fun hs => h.work (hf _) (h.grantOwed_keeps hs)) hs ht

theorem offering_keeps (h : StepLaw L) {f : State → State} (hf : ∀ u : State, u.Does (f u)) (hs : L s)
    (ht : offering s f = .next t) : L t := by
  rcases offering_cases s f with ⟨-, e⟩ | ⟨-, e⟩ <;> rw [e] at ht
  · exact h.afterGrant_keeps hf hs ht
  · exact whileReleased_keeps (h.work (hf s)) hs ht

theorem plinDataCharacter_keeps (h : StepLaw L) {ch : Character} (hs : L s)
    (ht : execPlinDataCharacter ch s = .next t) : L t := by
  rcases execPlinDataCharacter_cases ch s with ⟨-, -, e⟩ | ⟨-, e⟩ <;> rw [e] at ht
  · exact whileReleased_keeps (h.work (.plinCharacter ch)) hs ht
  · exact h.afterGrant_keeps (fun u => .plinCharacter ch) hs ht

/-- A grant command grants where its requester is chosen (R144). -/
theorem grantCommand_keeps (h : StepLaw L) (r : Requester) (hs : L s)
    (ht : whileReleased s (if s.grantChoice = some r then s.grant r else s) = .next t) : L t := by
  refine whileReleased_keeps (fun hs => ?_) hs ht
  split
  · next hr => exact h.work (.grant hr) hs
  · exact hs

/-- A request frame keeps a law (R176). -/
theorem request_keeps (h : StepLaw L) {code : Nat} {f : Frame} {content : State → State}
    (hc : ∀ u : State, u.Outcome (content u)) (hs : L s)
    (ht : (afterGrant s fun s => s.takeRequest code f content) = .next t) : L t :=
  h.afterGrant_keeps (fun u => u.takeRequest_does code f hc) hs ht

theorem releaseReset_keeps (h : StepLaw L) (hs : L s) : L s.releaseReset := by
  unfold State.releaseReset
  split
  · exact h.reset s.pending false
  · exact hs

/-- Every command keeps a law. -/
theorem exec_keeps (h : StepLaw L) {c : Instr} (hs : L s) (ht : exec c s = .next t) : L t := by
  cases c
  case reset => cases ht; exact h.reset s.pending true
  case resetnRelease => cases ht; exact h.releaseReset_keeps hs
  case hitPlacement => exact h.offering_keeps (fun u => .takeHit) hs ht
  case eventExpiry => exact h.offering_keeps (fun u => .expireEvent) hs ht
  case plinDataCharacter ch => exact h.plinDataCharacter_keeps hs ht
  case fold => exact h.grantCommand_keeps .fold hs ht
  case sweepSlice => exact h.grantCommand_keeps .sweep hs ht
  case portGrant => exact h.grantCommand_keeps .port hs ht
  case lockExpiry => exact whileReleased_keeps (h.work .lockExpiry) hs ht
  case annunciatorFrameStart => exact whileReleased_keeps (h.work .frameStart) hs ht
  case lowTicksWrap =>
    refine h.afterGrant_keeps (f := fun u => if u.wrapNext then u.tick else u) (fun u => ?_) hs ht
    split
    · exact .tick
    · exact .nothing
  case hitLaneHeader l ch | hitLaneDataCharacter l ch | hitLaneCharacterError l ch =>
    exact h.afterGrant_keeps (fun u => .hitCharacter l ch) hs ht
  case plinHeader ch | plinCharacterError ch => exact h.afterGrant_keeps (fun u => .plinCharacter ch) hs ht
  case mergeServe => exact h.afterGrant_keeps (fun u => .merge) hs ht
  case restartCountExpiry => exact h.afterGrant_keeps (fun u => .endRestart) hs ht
  case settleCountExpiry => exact h.afterGrant_keeps (fun u => .endSettle) hs ht
  case sampleTimeoutExpiry => exact h.afterGrant_keeps (fun u => .sampleTimeout) hs ht
  case sweepTimerExpiry => exact h.afterGrant_keeps (fun u => .sweepTimer) hs ht
  case operationCompletion => exact h.afterGrant_keeps (fun u => .complete) hs ht
  case requestedDrainEnd => exact h.afterGrant_keeps (fun u => .requestedDrain) hs ht
  case ruptureDrainEnd => exact h.afterGrant_keeps (fun u => .ruptureDrain) hs ht
  case responseRead r => exact h.afterGrant_keeps (fun u => .reads r.bytes r.overtaken) hs ht
  case unknownRequestCode bytes => exact h.afterGrant_keeps (fun u => u.takeUnknown_does bytes) hs ht
  case status f => exact h.request_keeps (fun u => .answered (.latches _) _ _ _) hs ht
  case counters f => exact h.request_keeps (fun u => .counters u f) hs ht
  case configRead f => exact h.request_keeps (fun u => .configRead u f) hs ht
  case configWrite f => exact h.request_keeps (fun u => .configWrite u f) hs ht
  case geometryWrite flags g v => exact h.request_keeps (fun u => .geometry u _ g _) hs ht
  case sampleTimeoutWrite flags v => exact h.request_keeps (fun u => .sampleTimeout u _ _) hs ht
  case lockLimitWrite flags v => exact h.request_keeps (fun u => .lockLimit u _ _) hs ht
  case annEnableWrite flags v => exact h.request_keeps (fun u => .annEnable u _ _) hs ht
  case sensorRead f => exact h.request_keeps (fun u => .sensorRead u f) hs ht
  case sensorWrite f => exact h.request_keeps (fun u => .sensorWrite u f) hs ht
  case start f => exact h.request_keeps (fun u => .start u _) hs ht
  case stop f => exact h.request_keeps (fun u => .stop u _) hs ht
  case freeze f => exact h.request_keeps (fun u => .freeze u _) hs ht
  case thaw f => exact h.request_keeps (fun u => .thaw u _) hs ht
  case engineReset f => exact h.request_keeps (fun u => .engineReset u _) hs ht
  case restartChannels f => exact h.request_keeps (fun u => .answered .restarts _ _ _) hs ht
  case setView f => exact h.request_keeps (fun u => .setView u f) hs ht
  case scan f => exact h.request_keeps (fun u => .scan u f) hs ht
  case changes f => exact h.request_keeps (fun u => .await (work := .changes) u _ nofun) hs ht
  case seed f => exact h.request_keeps (fun u => .seed u f) hs ht
  case mark f => exact h.request_keeps (fun u => .mark u f) hs ht
  case lookup f => exact h.request_keeps (fun u => .awaitCell (work := .lookup) u f nofun) hs ht
  case clearStats f => exact h.request_keeps (fun u => .awaitCell (work := .clearStats) u f nofun) hs ht
  case retire f => exact h.request_keeps (fun u => .awaitCell (work := .retire) u f nofun) hs ht

/-- What the part does on an empty queue keeps a law: commands are queued, or a tick passes (log entry 2). -/
theorem idle_keeps (h : StepLaw L) (hs : L s) : L s.idle := by
  unfold State.idle
  split
  · exact hs
  · split
    · exact h.queue _ _ hs
    · split
      · exact h.queue _ _ hs
      · split
        · exact h.queue _ _ hs
        · exact h.queue _ _ (h.work .tick hs)

/-- Every step keeps a law. -/
theorem step_keeps (h : StepLaw L) (hs : L s) (ht : step s = .next t) : L t := by
  unfold step at ht
  split at ht
  · cases ht; exact h.idle_keeps hs
  · exact h.exec_keeps (h.queue _ _ hs) ht

end StepLaw

end Sys2Proof.Machine
end

section
/-! Which blocks of the state an operation can change, said once for each group of operations. -/

namespace Sys2Proof.Machine

/-! ### The way of a hit and of a sample: from the lanes to the Event Queue -/

/-- The blocks between the lines and the table alone are changed, and of the Sweep Scheduler its timer and what an
expiry of it counts. -/
def State.PathOnly (s t : State) : Prop :=
  ∃ intake former plin monitor timer backlog lost run latches, t =
    { s with
      intake := intake, former := former, plin := plin, monitor := monitor
      sweep := { s.sweep with timer := timer, backlog := backlog, lost := lost }
      run := run, latches := latches }

namespace State.PathOnly
variable {s t u : State}

theorem refl (s : State) : s.PathOnly s := ⟨_, _, _, _, _, _, _, _, _, rfl⟩

theorem trans (h : s.PathOnly t) (g : t.PathOnly u) : s.PathOnly u := by
  obtain ⟨_, _, _, _, _, _, _, _, _, rfl⟩ := h
  obtain ⟨_, _, _, _, _, _, _, _, _, rfl⟩ := g
  exact ⟨_, _, _, _, _, _, _, _, _, rfl⟩

theorem intake (s : State) (f : Intake → Intake) : s.PathOnly (s.updIntake f) := ⟨_, _, _, _, _, _, _, _, _, rfl⟩
theorem former (s : State) (f : Former → Former) : s.PathOnly (s.updFormer f) := ⟨_, _, _, _, _, _, _, _, _, rfl⟩
theorem plin (s : State) (f : Plin → Plin) : s.PathOnly (s.updPlin f) := ⟨_, _, _, _, _, _, _, _, _, rfl⟩
theorem monitor (s : State) (f : Monitor → Monitor) : s.PathOnly (s.updMonitor f) :=
  ⟨_, _, _, _, _, _, _, _, _, rfl⟩
theorem latches (s : State) (f : Latches → Latches) : s.PathOnly (s.updLatches f) :=
  ⟨_, _, _, _, _, _, _, _, _, rfl⟩
theorem lane (s : State) (l : Lane) (f : LaneReceiver → LaneReceiver) : s.PathOnly (s.updLane l f) := intake s _
theorem laneState (s : State) (l : Lane) (st : LaneState) : s.PathOnly (s.setLaneState l st) := lane s l _
theorem enterFrozen (s : State) : s.PathOnly s.enterFrozen := ⟨_, _, _, _, _, _, _, _, _, rfl⟩

/-! The lanes and the Merge. -/

theorem offerDescriptor (s : State) (d : Descriptor) : s.PathOnly (s.offerDescriptor d) := by
  rcases s.offerDescriptor_cases d with ⟨-, h⟩ | ⟨-, h⟩ <;> rw [h]
  · exact intake s _
  · exact (intake s _).trans (latches _ _)

theorem serveLane (s : State) (l : Lane) : s.PathOnly (s.serveLane l) := by
  rcases s.serveLane_cases l with ⟨-, h⟩ | ⟨d, -, h⟩ <;> rw [h]
  · exact refl s
  · exact ((lane s l _).trans (intake _ _)).trans (offerDescriptor _ d)

theorem mergeServe (s : State) : s.PathOnly s.mergeServe := by
  unfold State.mergeServe
  split
  · exact serveLane s _
  · exact refl s

theorem hitFrame (s : State) (l : Lane) (c : Channel) (bytes : List Byte) :
    s.PathOnly (s.hitFrame l c bytes) := by
  unfold State.hitFrame
  split
  · exact intake s _
  · dsimp only
    split
    · exact intake s _
    · exact (serveLane s l).trans (lane _ l _)

theorem faultFrame (s : State) (l : Lane) (c : Channel) (code : Byte) : s.PathOnly (s.faultFrame l c code) := by
  unfold State.faultFrame
  split
  · exact lane s l _
  · exact intake s _

theorem completeFrame (s : State) (l : Lane) (fr : LaneFrame) : s.PathOnly (s.completeFrame l fr) := by
  unfold State.completeFrame
  split
  · split
    · exact hitFrame s l _ _
    · exact faultFrame s l _ _
  · exact lane s l _

theorem openFrame (s : State) (l : Lane) (kind : FrameKind) (c : Channel) :
    s.PathOnly (s.openFrame l kind c) := by
  unfold State.openFrame
  split
  · exact laneState s l _
  · exact lane s l _

theorem examineHeader (s : State) (l : Lane) (b : Byte) : s.PathOnly (s.examineHeader l b) := by
  unfold State.examineHeader
  split
  · exact openFrame s l _ _
  · exact openFrame s l _ _
  · exact lane s l _
  · exact lane s l _

theorem laneError (s : State) (l : Lane) : s.PathOnly (s.laneError l) := by
  unfold State.laneError State.latchLinkError
  exact (lane s l _).trans (latches _ _)

theorem takeHitCharacter (s : State) (l : Lane) (ch : Character) : s.PathOnly (s.takeHitCharacter l ch) := by
  unfold State.takeHitCharacter
  split
  · split
    · exact refl s
    · unfold State.laneHeader
      split
      · exact (lane s l _).trans (examineHeader _ l _)
      · exact examineHeader s l _
    · unfold State.laneData
      split
      · dsimp only
        split
        · exact laneState s l _
        · exact (laneState s l _).trans (completeFrame _ l _)
      · exact refl s
    · exact laneError s l
  · exact refl s

theorem endRestart (s : State) : s.PathOnly s.endRestart := by
  unfold State.endRestart
  split
  · exact intake s _
  · exact refl s

theorem endSettle (s : State) : s.PathOnly s.endSettle := by
  unfold State.endSettle
  split
  · exact ((intake s _).trans (laneState _ .a _)).trans (laneState _ .b _)
  · exact refl s

/-! The Event Former and the drains. -/

theorem testRequestedDrain (s : State) : s.PathOnly s.testRequestedDrain := by
  rcases s.testRequestedDrain_cases with ⟨-, -, -, h⟩ | h <;> rw [h]
  · exact enterFrozen s
  · exact refl s

theorem testRuptureDrain (s : State) : s.PathOnly s.testRuptureDrain := by
  rcases s.testRuptureDrain_cases with ⟨-, -, -, h⟩ | h <;> rw [h]
  · exact enterFrozen s
  · exact refl s

theorem offerEvent (s : State) (ev : LocatedEvent) : s.PathOnly (s.offerEvent ev) := by
  rcases s.offerEvent_cases ev with ⟨-, h⟩ | ⟨-, h⟩ <;> rw [h]
  · exact former s _
  · exact (former s _).trans (latches _ _)

theorem closeEvent (s : State) (e : OpenEvent) : s.PathOnly (s.closeEvent e) :=
  (former s _).trans (offerEvent _ _)

theorem closeAt (s : State) (i : Nat) (early : Bool) : s.PathOnly (s.closeAt i early) := by
  rcases s.closeAt_cases i early with ⟨-, h⟩ | ⟨e, -, h⟩ <;> rw [h]
  · exact refl s
  · exact (former s _).trans (closeEvent _ _)

theorem joinAt (s : State) (i : Nat) (e : OpenEvent) (d : Descriptor) : s.PathOnly (s.joinAt i e d) := by
  unfold State.joinAt
  dsimp only
  split
  · exact (former s _).trans (closeAt _ _ _)
  · exact former s _

theorem earlyClose (s : State) : s.PathOnly s.earlyClose := by
  unfold State.earlyClose
  split
  · split
    · exact (former s _).trans (closeAt _ _ _)
    · exact refl s
  · exact refl s

theorem placeHit (s : State) (d : Descriptor) : s.PathOnly (s.placeHit d) := by
  rcases s.placeHit_cases d with ⟨-, h⟩ | ⟨-, i, -, ⟨-, h⟩ | ⟨e, -, ⟨-, h⟩ | ⟨-, h⟩⟩⟩ | ⟨-, -, ⟨-, h⟩ | ⟨-, h⟩⟩ <;>
    rw [h]
  · exact former s _
  · exact refl s
  · exact former s _
  · exact joinAt s i e d
  · exact former s _
  · exact (earlyClose s).trans (former _ _)

theorem takeHit (s : State) : s.PathOnly s.takeHit := by
  unfold State.takeHit
  split
  · exact refl s
  · exact ((intake s _).trans (placeHit _ _)).trans (testRuptureDrain _)

theorem expireEvent (s : State) : s.PathOnly s.expireEvent := by
  unfold State.expireEvent
  split
  · exact (closeAt s _ _).trans (testRuptureDrain _)
  · exact refl s

/-! Samples, the sample timeout and the sweep timer. -/

theorem latchRupture (s : State) : s.PathOnly s.latchRupture := by
  unfold State.latchRupture
  refine trans ?_ (testRuptureDrain _)
  exact ⟨_, _, _, _, _, _, _, _, _, rfl⟩

theorem takeSample (s : State) (pressure : Nat) (b : Byte) : s.PathOnly (s.takeSample pressure b) := by
  rcases s.takeSample_cases pressure b with ⟨-, h⟩ | ⟨-, t, ⟨rfl, -⟩ | ⟨rfl, -⟩, h⟩ <;> rw [h]
  · exact refl s
  · exact monitor _ _
  · exact (latchRupture s).trans (monitor _ _)

theorem testSampleTimeout (s : State) : s.PathOnly s.testSampleTimeout := by
  rcases s.testSampleTimeout_cases with ⟨-, h⟩ | ⟨-, h⟩ <;> rw [h]
  · exact ⟨_, _, _, _, _, _, _, _, _, rfl⟩
  · exact refl s

theorem examinePlinHeader (s : State) (b : Byte) : s.PathOnly (s.examinePlinHeader b) := by
  unfold State.examinePlinHeader
  split <;> exact plin s _

theorem takePlinCharacter (s : State) (ch : Character) : s.PathOnly (s.takePlinCharacter ch) := by
  unfold State.takePlinCharacter
  split
  · exact refl s
  · unfold State.plinHeader
    split
    · exact (plin s _).trans (examinePlinHeader _ _)
    · exact examinePlinHeader s _
  · unfold State.plinData
    split
    · dsimp only
      split
      · exact plin s _
      · exact (plin s _).trans (takeSample _ _ _)
    · exact refl s
  · unfold State.plinError State.latchLinkError
    exact (plin s _).trans (latches _ _)

theorem expireSweepTimer (s : State) : s.PathOnly s.expireSweepTimer := by
  unfold State.expireSweepTimer State.owePass
  split
  · split <;> exact ⟨_, _, _, _, _, _, _, _, _, rfl⟩
  · exact refl s

/-! What such an operation leaves. -/

theorem now_eq (h : s.PathOnly t) : t.now = s.now := by obtain ⟨_, _, _, _, _, _, _, _, _, rfl⟩ := h; rfl
theorem table_eq (h : s.PathOnly t) : t.table = s.table := by
  obtain ⟨_, _, _, _, _, _, _, _, _, rfl⟩ := h; rfl
theorem zones_eq (h : s.PathOnly t) : t.zones = s.zones := by
  obtain ⟨_, _, _, _, _, _, _, _, _, rfl⟩ := h; rfl
theorem pass_eq (h : s.PathOnly t) : t.sweep.pass = s.sweep.pass := by
  obtain ⟨_, _, _, _, _, _, _, _, _, rfl⟩ := h; rfl
theorem cursor_eq (h : s.PathOnly t) : t.sweep.cursor = s.sweep.cursor := by
  obtain ⟨_, _, _, _, _, _, _, _, _, rfl⟩ := h; rfl
theorem arbiter_eq (h : s.PathOnly t) : t.arbiter = s.arbiter := by
  obtain ⟨_, _, _, _, _, _, _, _, _, rfl⟩ := h; rfl
theorem port_eq (h : s.PathOnly t) : t.port = s.port := by obtain ⟨_, _, _, _, _, _, _, _, _, rfl⟩ := h; rfl
theorem params_eq (h : s.PathOnly t) : t.params = s.params := by
  obtain ⟨_, _, _, _, _, _, _, _, _, rfl⟩ := h; rfl
theorem sensors_eq (h : s.PathOnly t) : t.sensors = s.sensors := by
  obtain ⟨_, _, _, _, _, _, _, _, _, rfl⟩ := h; rfl

end State.PathOnly

/-! ### Folds and slices -/

/-- The table, the zones and what the operation in progress has noted alone are changed. -/
def State.TableOnly (s t : State) : Prop :=
  ∃ table zones operation, t =
      { s with table := table, zones := zones, arbiter := { s.arbiter with operation := operation } } ∧
    operation.map (·.requester) = s.arbiter.operation.map (·.requester)

namespace State.TableOnly
variable {s t u : State}

theorem refl (s : State) : s.TableOnly s := ⟨_, _, _, rfl, rfl⟩

theorem trans (h : s.TableOnly t) (g : t.TableOnly u) : s.TableOnly u := by
  obtain ⟨_, _, _, rfl, h⟩ := h
  obtain ⟨_, _, _, rfl, g⟩ := g
  exact ⟨_, _, _, rfl, g.trans h⟩

theorem table (s : State) (f : SourceTable → SourceTable) : s.TableOnly (s.updTable f) := ⟨_, _, _, rfl, rfl⟩
theorem zone (s : State) (c : Channel) (f : Zone → Zone) : s.TableOnly (s.updZone c f) := ⟨_, _, _, rfl, rfl⟩

theorem operation (s : State) {f : Operation → Operation} (hf : ∀ op, (f op).requester = op.requester) :
    s.TableOnly (s.updOperation f) := by
  refine ⟨_, _, _, rfl, ?_⟩
  rw [Option.map_map]
  exact congrFun (congrArg Option.map (funext hf)) _

theorem settleRecord (s : State) (slot : Nat) (r : SourceRecord) (found : Nat) :
    s.TableOnly (s.settleRecord slot r found) := by
  rw [State.settleRecord_eq]
  exact ⟨_, _, _, rfl, rfl⟩

theorem foldEvent (s : State) (e : LocatedEvent) : s.TableOnly (s.foldEvent e) := by
  unfold State.foldEvent
  split
  · exact zone s _ _
  · rcases s.foldRecordPath_cases e with ⟨slot, r, -, h⟩ | ⟨room, -, -, h⟩ | ⟨-, -, h⟩ <;> rw [h]
    · exact settleRecord s _ _ _
    · have hroom : s.TableOnly { s with table := room.table } := ⟨_, _, _, rfl, rfl⟩
      exact (hroom.trans (operation _ (by intro op; rfl))).trans (settleRecord _ _ _ _)
    · exact operation s fun _ => rfl

theorem visitSlot (s : State) (slot : Nat) : s.TableOnly (s.visitSlot slot) := by
  rcases s.visitSlot_cases slot with ⟨-, h⟩ | ⟨r, -, ⟨-, h⟩ | ⟨-, h⟩⟩ <;> rw [h]
  · exact refl s
  · exact (table s _).trans (operation _ (by intro op; rfl))
  · rw [State.buildZone_eq]
    exact (settleRecord s _ _ _).trans ⟨_, _, _, rfl, rfl⟩

theorem visitSlots (s : State) (slot n : Nat) : s.TableOnly (s.visitSlots slot n) := by
  induction n generalizing s slot with
  | zero => exact refl s
  | succ n ih => exact (visitSlot s slot).trans (ih _ _)

end State.TableOnly

/-- The Arbiter after a grant (R144, R145, R148), whatever its operation notes. -/
def State.Granted (s : State) (r : Requester) (a : Arbiter) : Prop :=
  ∃ op starvation, op.requester = r ∧
    a = { s.arbiter with
      operation := some op, recency := moveToFront r s.arbiter.recency, starvation := starvation }

/-- The operation that a grant begins, after the work on the table that follows in it. -/
theorem State.TableOnly.granted {s t : State} {r : Requester} {a b : Bool}
    (h : (s.beginGrant r a b).TableOnly t) :
    ∃ table zones arbiter, s.Granted r arbiter ∧
      t = { s with table := table, zones := zones, arbiter := arbiter } := by
  obtain ⟨table, zones, operation, rfl, h⟩ := h
  obtain ⟨op, rfl, hop⟩ := Option.map_eq_some_iff.mp h
  exact ⟨_, _, _, ⟨op, _, hop, rfl⟩, rfl⟩

/-- A grant to FOLD takes one entry out of the Event Queue; else the Arbiter, the table and the zones alone are
changed (R37, R106, R144). -/
theorem State.grant_fold {s : State} (h : s.grantChoice = some .fold) :
    ∃ i table zones arbiter, s.foldIndex = some i ∧ s.Granted .fold arbiter ∧
      s.grant .fold =
        { s with
          former := { s.former with queue := s.former.queue.eraseIdx i }
          table := table, zones := zones, arbiter := arbiter } := by
  obtain ⟨i, e, hi, he⟩ := State.foldIndex_of_requests
    (State.foldRequests_of_background (State.grantChoice_fold h).2.2)
  have ht : s.grant .fold = ((s.beginGrant .fold true false).updFormer fun f =>
      { f with queue := f.queue.eraseIdx i }).foldEvent e := by
    simp only [State.grant, State.grantFold, hi, he]
  obtain ⟨table, zones, arbiter, ha, hu⟩ :=
    (State.TableOnly.foldEvent ((s.updFormer fun f =>
      { f with queue := f.queue.eraseIdx i }).beginGrant .fold true false) e).granted
  have hsame : (s.beginGrant .fold true false).updFormer (fun f =>
      { f with queue := f.queue.eraseIdx i }) = (s.updFormer fun f =>
      { f with queue := f.queue.eraseIdx i }).beginGrant .fold true false := rfl
  rw [hsame, hu] at ht
  exact ⟨i, table, zones, arbiter, hi, ha, ht⟩

/-- SWEEP is granted only where it requests and the lock is free (R143, R146). -/
theorem State.grantChoice_sweep {s : State} (h : s.grantChoice = some .sweep) :
    s.arbiter.operation = none ∧ s.arbiter.locked = false ∧ s.sweepRequests = true := by
  unfold State.grantChoice at h
  split at h
  · cases h
  · next ho =>
    split at h
    · split at h <;> cases h
    · next hl =>
      refine ⟨by simpa using ho, by simpa using hl, ?_⟩
      cases hs : s.sweepRequests
      · have hb : s.background ≠ some .sweep := by
          simp only [State.background, hs]
          cases s.foldRequests <;> simp
        simp only [hs] at h
        split at h
        · next hc => simp at hc
        · split at h
          · split at h <;> cases h
          · next b hb' =>
            split at h
            · cases h
            · cases h; exact absurd hb' hb
      · rfl

/-- A grant to SWEEP changes the Arbiter, the table, the zones and the pass alone (R132, R144). -/
theorem State.grant_sweep (s : State) :
    ∃ table zones arbiter pass cursor, s.Granted .sweep arbiter ∧
      s.grant .sweep =
        { s with
          table := table, zones := zones, arbiter := arbiter
          sweep := { s.sweep with pass := pass, cursor := cursor } } := by
  have hb : ∃ pass cursor, s.sweep.beginPass = { s.sweep with pass := pass, cursor := cursor } := by
    unfold Sweep.beginPass
    split <;> exact ⟨_, _, rfl⟩
  obtain ⟨pass, cursor, hb⟩ := hb
  obtain ⟨table, zones, arbiter, ha, hv⟩ :=
    (State.TableOnly.visitSlots ((s.updSweep Sweep.beginPass).beginGrant .sweep false s.sweep.slicesToEnd)
      s.sweep.beginPass.cursor Config.sliceSlots).granted
  have ht : s.grant .sweep =
      let v := State.visitSlots ((s.updSweep Sweep.beginPass).beginGrant .sweep false s.sweep.slicesToEnd)
        s.sweep.beginPass.cursor Config.sliceSlots
      if s.sweep.beginPass.slicesToEnd then v.endPass
      else v.updSweep fun w => { w with cursor := w.cursor + Config.sliceSlots } := rfl
  generalize Config.sliceSlots = n at ht hv
  rw [hv] at ht
  rw [ht]
  dsimp only
  split
  · exact ⟨table, zones.map fun z => { live := z.building, building := 0, unlocated := 0 }, arbiter, false, 0, ha, by
      simp only [State.endPass, State.mapZones, State.updSweep, hb]⟩
  · exact ⟨table, zones, arbiter, pass, cursor + n, ha, by simp only [State.updSweep, hb]⟩

/-- The request that waits where PORT is chosen (R143). -/
theorem State.portWork_of_choice {s : State} (h : s.grantChoice = some .port) :
    ∃ hold work, s.port.request = some { hold := hold, stage := .waiting work } := by
  obtain ⟨-, hp | hp⟩ := State.grantChoice_port h
  · unfold State.portRequests State.portWork at hp
    split at hp
    · exact ⟨_, _, ‹_›⟩
    · cases hp
  · exact absurd hp s.background_ne_port

/-- Table work rests on neither the port nor the Arbiter, and keeps both. -/
theorem State.performWork_port_arbiter (s : State) (p : Port) (a : Arbiter) (work : TableWork) :
    ({ s with port := p, arbiter := a } : State).performWork work =
      { state := { (s.performWork work).state with port := p, arbiter := a }
        status := (s.performWork work).status
        payload := (s.performWork work).payload } := by
  cases work <;> simp only [State.performWork]
  case lookup k => unfold State.workLookup State.onRecord; dsimp only; split <;> rfl
  case scan => rfl
  case changes => rfl
  case seed =>
    unfold State.workSeed
    dsimp only
    split
    · rfl
    · split <;> rfl
  case mark =>
    unfold State.workMark State.onRecord
    dsimp only
    split
    · dsimp only
      split <;> rfl
    · rfl
  case clearStats => unfold State.workClearStats State.onRecord; dsimp only; split <;> rfl
  case retire => unfold State.workRetire State.onRecord; dsimp only; split <;> rfl
  case geometry => rfl
  case sensor => rfl

/-- What table work makes of the state: the table, the zones, the parameters, the sensor map and the channel
faults alone. -/
theorem State.performWork_state (s : State) (work : TableWork) :
    let u := (s.performWork work).state
    u = { s with
      table := u.table, zones := u.zones, params := u.params, sensors := u.sensors
      intake := { s.intake with faults := u.intake.faults } } := by
  obtain ⟨-, -, h⟩ := s.performWork_frame work
  generalize (s.performWork work).state = u at h
  calc
    u = { ({ u with
            table := s.table, zones := s.zones, params := s.params, sensors := s.sensors
            intake := { u.intake with faults := s.intake.faults } } : State) with
          table := u.table, zones := u.zones, params := u.params, sensors := u.sensors
          intake := { ({ u.intake with faults := s.intake.faults } : Intake) with
            faults := u.intake.faults } } := rfl
    _ = _ := by
      have hi : ({ u.intake with faults := s.intake.faults } : Intake) = s.intake := congrArg State.intake h
      rw [h, hi]

/-- The Arbiter after a grant to PORT (R144, R145, R148, R149). -/
def State.portGranted (s : State) (hold : Bool) : Arbiter :=
  { s.arbiter with
    operation := some
      { requester := .port, liveBefore := s.table.liveCount, reportBefore := s.table.reportCount
        tookEntry := false, endsPass := false, unplaced := false, evicted := false, autoRetired := 0 }
    recency := moveToFront .port s.arbiter.recency
    starvation := 0
    locked := s.arbiter.locked || hold
    acquired := if hold && !s.arbiter.locked then s.now else s.arbiter.acquired }

/-- A grant to PORT: its Arbiter, the request that was granted, and what the table work makes of the table, the
zones, the parameters, the sensor map and the channel faults (R144, R149). -/
theorem State.grant_port {s : State} {hold : Bool} {work : TableWork}
    (h : s.port.request = some { hold := hold, stage := .waiting work }) :
    let result := s.performWork work
    s.grant .port =
      { s with
        table := result.state.table, zones := result.state.zones, params := result.state.params
        sensors := result.state.sensors
        intake := { s.intake with faults := result.state.intake.faults }
        arbiter := s.portGranted hold
        port := { s.port with
          request := some { hold := hold, stage := .granted result.status result.payload } } } := by
  have hg : s.grant .port = s.grantPort hold work := by
    simp only [State.grant, State.grantRequest, State.portWork, h]
  have ha : (s.beginGrant .port false false).acquireLock hold =
      { s with port := s.port, arbiter := s.portGranted hold } := by
    rcases State.acquireLock_cases (s.beginGrant .port false false) hold with ⟨rfl, b, c⟩ | ⟨a, b⟩
    · have b' : s.arbiter.locked = false := b
      rw [c]
      simp [State.beginGrant, State.updArbiter, State.portGranted, b']
    · rw [b]
      have a' : hold = false ∨ s.arbiter.locked = true := a
      rcases a' with rfl | a <;> simp_all [State.beginGrant, State.updArbiter, State.portGranted]
  have hw := s.performWork_state work
  dsimp only at hw ⊢
  rw [hg, State.grantPort, ha, State.performWork_port_arbiter]
  generalize s.performWork work = result at hw
  dsimp only [State.updPort]
  rw [hw]

end Sys2Proof.Machine
end

section
/-! What the effects of a request and the completion of an operation leave unchanged. -/

namespace Sys2Proof.Machine

/-! ### The effects of requests -/

/-- ENGINE RESET, as one equation (R165). -/
theorem State.resetEngine_eq (s : State) :
    s.resetEngine =
      { s with
        intake := s.intake.emptyPath
        former := { s.former with
          openSet := [], aborteds := satAdd 65535 s.former.aborteds s.former.openSet.length, queue := [] }
        sweep := { s.sweep with backlog := 0, pass := false, cursor := 0 }
        zones := s.zones.map fun z => { z with building := 0 }
        arbiter := { s.arbiter with locked := false, breaking := false, starvation := 0 }
        run := { s.run with state := if s.run.state = .freezing then .frozen else s.run.state }
        latches := { s.latches with
          frozenReached := s.latches.frozenReached || decide (s.run.state = .freezing) } } := by
  by_cases h : s.run.state = .freezing <;>
    simp [State.resetEngine, State.updIntake, State.abortOpenEvents, State.updFormer, State.abandonSweep,
      State.updSweep, State.mapZones, State.releaseLock, State.updArbiter, State.enterFrozen, h]

namespace State.Effect
variable {s t : State}

/-- No effect of a request changes the port but its view base. -/
theorem port (h : s.Effect t) : ∃ view, t.port = { s.port with view := view } := by
  cases h
  case views k => exact ⟨k, rfl⟩
  all_goals refine ⟨s.port.view, ?_⟩
  case clears => rfl
  case restarts => simp
  all_goals simp

theorem sensors (h : s.Effect t) : t.sensors = s.sensors := by
  cases h
  case started => unfold State.startRun; dsimp only; split <;> rfl
  case freezes => exact (State.PathOnly.testRequestedDrain _).sensors_eq
  case engineReset => rw [State.resetEngine_eq]
  case restarts => exact (State.PathOnly.testRuptureDrain s.startRestart).sensors_eq
  case sampleTimeout v => exact (State.PathOnly.testSampleTimeout _).sensors_eq
  case lockLimit => rcases State.testLockExpiry_cases _ with ⟨-, h⟩ | ⟨-, h⟩ | ⟨-, h⟩ <;> rw [h] <;> rfl
  case annEnable =>
    unfold State.annEnableWritten
    split
    · rfl
    · split <;> rfl
  all_goals rfl

/-- A request that needs no table stores at most one parameter, none of the geometry (R185). -/
theorem params (h : s.Effect t) :
    t.params = s.params ∨ ∃ p v, (∀ g, p ≠ .geometry g) ∧ t.params = s.params.store p v := by
  cases h
  case started => left; unfold State.startRun; dsimp only; split <;> rfl
  case freezes => left; exact (State.PathOnly.testRequestedDrain _).params_eq
  case engineReset => left; rw [State.resetEngine_eq]
  case restarts => left; exact (State.PathOnly.testRuptureDrain s.startRestart).params_eq
  case stores p v h => exact .inr ⟨p, v, h, rfl⟩
  case sampleTimeout v =>
    exact .inr ⟨.sampleTimeout, v, nofun, (State.PathOnly.testSampleTimeout _).params_eq⟩
  case lockLimit v =>
    refine .inr ⟨.lockLimit, v, nofun, ?_⟩
    rcases State.testLockExpiry_cases (s.storeParam .lockLimit v) with ⟨-, h⟩ | ⟨-, h⟩ | ⟨-, h⟩ <;> rw [h] <;> rfl
  case annEnable v =>
    refine .inr ⟨.annEnable, v, nofun, ?_⟩
    unfold State.annEnableWritten
    split
    · rfl
    · split <;> rfl
  all_goals exact .inl rfl

end State.Effect

/-! ### The completion of a fold or slice -/

/-- What a fold or slice does at its completion, as one equation (R129, R137): the state of the statements. -/
theorem State.finishOperation_eq (s : State) (op : Operation) : s.finishOperation op = s.finished op := by
  have htoNat : ∀ b : Bool, b.toNat = if b then 1 else 0 := fun b => by cases b <;> rfl
  unfold State.finishOperation State.finished
  cases op.endsPass <;>
    simp [State.countOperation, State.lowerBacklog, State.updSweep, satAdd, htoNat]

/-- How the completion of a fold or slice ends (R144, R154): it is counted and the drains are tested; and a STOP or
ENGINE RESET that waited acts. -/
theorem State.completeBackground_cases (s : State) (op : Operation) :
    let t := (s.finished op).testRequestedDrain.testRuptureDrain
    (s.completeBackground op = t ∧
        ∀ hold stage, s.port.request = some { hold := hold, stage := stage } →
          stage ≠ .stop ∧ stage ≠ .engineReset) ∨
      (∃ hold, s.port.request = some { hold := hold, stage := .stop } ∧
        s.completeBackground op = t.stopRun.respond hold .ok .none) ∨
      ∃ hold, s.port.request = some { hold := hold, stage := .engineReset } ∧
        s.completeBackground op = t.resetEngine.respond hold .ok .none := by
  dsimp only
  unfold State.completeBackground
  have hp : (s.finished op).testRequestedDrain.testRuptureDrain.port = s.port := by
    simp [State.finished]
  rw [State.finishOperation_eq]
  generalize (s.finished op).testRequestedDrain.testRuptureDrain = t at hp
  dsimp only
  rw [hp]
  split
  · next hq => exact .inr (.inl ⟨_, hq, rfl⟩)
  · next hq => exact .inr (.inr ⟨_, hq, rfl⟩)
  · next h1 h2 =>
    refine .inl ⟨rfl, fun hold stage hq => ⟨?_, ?_⟩⟩ <;> rintro rfl
    · exact h1 hold hq
    · exact h2 hold hq

/-- How the completion of a PORT operation ends (R150, R151): a release that waited is made, and the request that was
granted is answered. -/
theorem State.completePort_cases (s : State) :
    let t := if s.arbiter.breaking then s.forceRelease else s
    (∃ hold status payload, s.port.request = some { hold := hold, stage := .granted status payload } ∧
        s.completePort = t.respond hold status payload) ∨
      (s.requestGranted = false ∧ s.completePort = t) := by
  dsimp only
  have hp : (if s.arbiter.breaking then s.forceRelease else s).port = s.port := by
    split <;> rfl
  unfold State.completePort State.requestGranted
  dsimp only
  rw [hp]
  cases hq : s.port.request with
  | none => exact .inr ⟨rfl, rfl⟩
  | some q =>
    obtain ⟨hold, stage⟩ := q
    cases stage with
    | granted status payload => exact .inl ⟨_, _, _, rfl, rfl⟩
    | _ => exact .inr ⟨rfl, rfl⟩

end Sys2Proof.Machine
end

section
/-! The statement about the configuration (R48, R49, R52, R185): parameters in range, sensor positions distinct. -/

namespace Sys2Proof.Machine

/-! ### Parameters -/

theorem clamp_mem {lo hi : Nat} (h : lo ≤ hi) (v : Nat) : lo ≤ clamp lo hi v ∧ clamp lo hi v ≤ hi := by
  unfold clamp
  omega

/-- No range but those of the geometry rests on the parameters in force, and those rest on LENGTH and CIRC alone. -/
theorem Params.range_congr {p q : Params} (hl : q.length = p.length) (hc : q.circ = p.circ) (r : Param) :
    q.range r = p.range r := by
  cases r with
  | geometry g => cases g <;> simp only [Params.range, Params.gridMin, hl, hc]
  | _ => rfl

/-- The range of a parameter that is none of the geometry is fixed (Table 11-4). -/
theorem Params.range_eq {r : Param} (hr : ∀ g, r ≠ .geometry g) (q p : Params) : q.range r = p.range r := by
  cases r with
  | geometry g => exact absurd rfl (hr g)
  | _ => rfl

theorem Params.put_length {q : Param} (hq : ∀ g, q ≠ .geometry g) (p : Params) (v : Nat) :
    (p.put q v).length = p.length ∧ (p.put q v).circ = p.circ := by
  cases q with
  | geometry g => exact absurd rfl (hq g)
  | _ => exact ⟨rfl, rfl⟩

theorem Params.get_put_self {q : Param} (hq : ∀ g, q ≠ .geometry g) (p : Params) (v : Nat) :
    (p.put q v).get q = v := by
  cases q with
  | geometry g => exact absurd rfl (hq g)
  | _ => rfl

theorem Params.get_put_of_ne {q r : Param} (hq : ∀ g, q ≠ .geometry g) (hr : r ≠ q) (p : Params) (v : Nat) :
    (p.put q v).get r = p.get r := by
  cases q with
  | geometry g => exact absurd rfl (hq g)
  | _ => cases r <;> first | rfl | exact absurd rfl hr

/-- A parameter whose range is no geometry's is stored in its range (R185). -/
theorem ParamLaw.store {p : Params} (h : ParamLaw p) {q : Param} (hq : ∀ g, q ≠ .geometry g) (v : Nat) :
    ParamLaw (p.store q v) := by
  intro r
  obtain ⟨hl, hc⟩ := Params.put_length hq p (p.clamped q v)
  rw [Params.store, Params.range_congr hl hc]
  by_cases hr : r = q
  · subst hr
    rw [Params.get_put_self hq]
    exact clamp_mem (Nat.le_trans (h r).1 (h r).2) v
  · rw [Params.get_put_of_ne hq hr]
    exact h r

/-- The law of the parameters, read on the geometry alone, where the other parameters are kept (Table 3-2). -/
theorem ParamLaw.geometry {p q : Params} (h : ParamLaw p)
    (hother : ∀ r, (∀ g, r ≠ .geometry g) → q.get r = p.get r)
    (hlength : 100 ≤ q.length ∧ q.length ≤ 65535) (hcirc : 100 ≤ q.circ ∧ q.circ ≤ 65535)
    (hcell : q.gridMin ≤ q.cell ∧ q.cell ≤ 4000) (hring : ∀ i : Fin 16, q.ringPos[i] ≤ q.length)
    (hcol : ∀ i : Fin 16, q.colPos[i] ≤ q.circ - 1) : ParamLaw q := by
  intro r
  by_cases hr : ∃ g, r = .geometry g
  · obtain ⟨g, rfl⟩ := hr
    cases g with
    | length => exact hlength
    | circ => exact hcirc
    | cell => exact hcell
    | ringPos i => exact ⟨Nat.zero_le _, hring i⟩
    | colPos i => exact ⟨Nat.zero_le _, hcol i⟩
  · have hr := not_exists.mp hr
    rw [hother r hr, Params.range_eq hr q p]
    exact h r

/-- CELL never has to pass 4000: the grid minimum of the largest shell is 256 (R49). -/
theorem Params.gridMin_le {p : Params} (hl : p.length ≤ 65535) (hc : p.circ ≤ 65535) : p.gridMin ≤ 256 := by
  unfold Params.gridMin ceilDiv
  omega

theorem vector_set_get {α : Type} {n : Nat} (v : Vector α n) (i j : Fin n) (x : α) :
    (v.set i x)[j] = if i = j then x else v[j] := by
  by_cases h : i = j
  · subst h; simp
  · have : i.val ≠ j.val := fun g => h (Fin.ext g)
    simp [this, h]

/-- A geometry write keeps the law of the parameters (R48, R49). -/
theorem ParamLaw.storeGeometry {p : Params} (h : ParamLaw p) (g : GeometryParam) (v : Nat) :
    ParamLaw (p.storeGeometry g v) := by
  have hl : 100 ≤ p.length ∧ p.length ≤ 65535 := h (.geometry .length)
  have hc : 100 ≤ p.circ ∧ p.circ ≤ 65535 := h (.geometry .circ)
  have hcell : p.gridMin ≤ p.cell ∧ p.cell ≤ 4000 := h (.geometry .cell)
  have hring (i : Fin 16) : p.ringPos[i] ≤ p.length := (h (.geometry (.ringPos i))).2
  have hcol (i : Fin 16) : p.colPos[i] ≤ p.circ - 1 := (h (.geometry (.colPos i))).2
  have hmin := Params.gridMin_le hl.2 hc.2
  have hother (r : Param) (hr : ∀ g, r ≠ .geometry g) : (p.storeGeometry g v).get r = p.get r := by
    cases r with
    | geometry g => exact absurd rfl (hr g)
    | _ => cases g <;> rfl
  cases g with
  | length =>
    have hx : 100 ≤ clamp 100 65535 v ∧ clamp 100 65535 v ≤ 65535 := clamp_mem (by omega) v
    have hnew : Params.gridMin { p with length := clamp 100 65535 v } ≤ 256 := Params.gridMin_le hx.2 hc.2
    refine h.geometry hother hx hc ⟨Nat.le_max_right _ _, Nat.max_le.mpr ⟨hcell.2, ?_⟩⟩ (fun i => ?_) hcol
    · exact Nat.le_trans hnew (by omega)
    · have : ((p.ringPos.map fun z => min z (clamp 100 65535 v))[i]) ≤ clamp 100 65535 v := by
        rw [Fin.getElem_fin, Vector.getElem_map]
        exact Nat.min_le_right _ _
      exact this
  | circ =>
    have hx : 100 ≤ clamp 100 65535 v ∧ clamp 100 65535 v ≤ 65535 := clamp_mem (by omega) v
    have hnew : Params.gridMin { p with circ := clamp 100 65535 v } ≤ 256 := Params.gridMin_le hl.2 hx.2
    refine h.geometry hother hl hx ⟨Nat.le_max_right _ _, Nat.max_le.mpr ⟨hcell.2, ?_⟩⟩ hring (fun i => ?_)
    · exact Nat.le_trans hnew (by omega)
    · have : ((p.colPos.map fun z => min z (clamp 100 65535 v - 1))[i]) ≤ clamp 100 65535 v - 1 := by
        rw [Fin.getElem_fin, Vector.getElem_map]
        exact Nat.min_le_right _ _
      exact this
  | cell =>
    have hx : p.gridMin ≤ clamp p.gridMin 4000 v ∧ clamp p.gridMin 4000 v ≤ 4000 :=
      clamp_mem (by omega) v
    exact h.geometry hother hl hc hx hring hcol
  | ringPos r =>
    refine h.geometry hother hl hc hcell (fun i => ?_) hcol
    have : (p.ringPos.set r (clamp 0 p.length v))[i] ≤ p.length := by
      rw [vector_set_get]
      split
      · exact (clamp_mem (Nat.zero_le _) v).2
      · exact hring i
    exact this
  | colPos k =>
    refine h.geometry hother hl hc hcell hring fun i => ?_
    have : (p.colPos.set k (clamp 0 (p.circ - 1) v))[i] ≤ p.circ - 1 := by
      rw [vector_set_get]
      split
      · exact (clamp_mem (Nat.zero_le _) v).2
      · exact hcol i
    exact this

/-! ### The sensor map -/

/-- Whether an entry conflicts rests on the sensor map alone (R52). -/
theorem State.sensorConflict_congr {s t : State} (h : t.sensors = s.sensors) (c : Channel) (e : Sensor) :
    t.sensorConflict c e = s.sensorConflict c e := by
  simp only [State.sensorConflict, h]

/-- An entry that does not conflict has no other enabled channel at its position (R52). -/
theorem State.sensorConflict_eq_false {s : State} {c : Channel} {e : Sensor} :
    s.sensorConflict c e = false ↔ e.enabled = true → ∀ d : Channel, d ≠ c → s.sensors[d].enabled = true →
      ¬(s.sensors[d].ring = e.ring ∧ s.sensors[d].column = e.column) := by
  simp [State.sensorConflict]

/-- A SENSOR WRITE that does not conflict keeps the positions distinct (R52). -/
theorem distinctPositions.set {s : State} (h : distinctPositions s.sensors) {c : Channel} {e : Sensor}
    (hc : s.sensorConflict c e = false) : distinctPositions (s.sensors.set c e) := by
  rw [State.sensorConflict_eq_false] at hc
  intro a b
  rw [vector_set_get, vector_set_get]
  split
  · next ha =>
    subst ha
    split
    · next hb => exact fun _ _ _ _ => hb
    · next hb =>
      intro h1 h2 h3 h4
      exact absurd ⟨h3.symm, h4.symm⟩ (hc h1 b (fun g => hb g.symm) h2)
  · next ha =>
    split
    · next hb =>
      subst hb
      intro h1 h2 h3 h4
      exact absurd ⟨h3, h4⟩ (hc h2 a (fun g => ha g.symm) h1)
    · exact h a b

/-! ### The law -/

/-- The law of the configuration: parameters in range, and the law of the sensor map. -/
structure ConfigurationLaw (s : State) : Prop where
  params : ParamLaw s.params
  sensors : SensorLaw s

namespace ConfigurationLaw
variable {s t : State}

/-- The law is kept where the parameters are in range, the sensor map is kept, and no SENSOR WRITE waits that did not
wait before. -/
theorem keep (h : ConfigurationLaw s) (hp : ParamLaw t.params) (hs : t.sensors = s.sensors)
    (hr : ∀ hold c e, t.port.request = some { hold := hold, stage := .waiting (.sensor c e) } →
      s.port.request = some { hold := hold, stage := .waiting (.sensor c e) }) : ConfigurationLaw t := by
  refine ⟨hp, ⟨hs ▸ h.sensors.distinct, fun hold c e ht => ?_⟩⟩
  rw [State.sensorConflict_congr hs]
  exact h.sensors.waiting hold c e (hr hold c e ht)

/-- An operation that keeps the parameters, the sensor map and the port keeps the law. -/
theorem same (h : ConfigurationLaw s) (hp : t.params = s.params) (hs : t.sensors = s.sensors)
    (hr : t.port = s.port) : ConfigurationLaw t :=
  h.keep (hp ▸ h.params) hs fun _ _ _ ht => hr ▸ ht

theorem path (h : ConfigurationLaw s) (g : s.PathOnly t) : ConfigurationLaw t :=
  h.same g.params_eq g.sensors_eq g.port_eq

/-- An answer leaves no request. -/
theorem respond (h : ConfigurationLaw s) (hold : Bool) (status : Status) (payload : Payload) :
    ConfigurationLaw (s.respond hold status payload) :=
  h.keep (by simpa using h.params) (by simp) fun _ _ _ ht => by simp at ht

/-- The work of a PORT grant: a geometry write is clamped, and a SENSOR WRITE that waits does not conflict. -/
theorem grantPort (h : ConfigurationLaw s) (hg : s.grantChoice = some .port) :
    ConfigurationLaw (s.grant .port) := by
  obtain ⟨hold, work, hq⟩ := State.portWork_of_choice hg
  rw [State.grant_port hq]
  have hw : ParamLaw (s.performWork work).state.params ∧
      distinctPositions (s.performWork work).state.sensors := by
    cases work with
    | geometry g v => exact ⟨h.params.storeGeometry g v, h.sensors.distinct⟩
    | sensor c e => exact ⟨h.params, h.sensors.distinct.set (h.sensors.waiting hold c e hq)⟩
    | lookup k =>
      simp only [State.performWork, State.workLookup, State.onRecord]
      split <;> exact ⟨h.params, h.sensors.distinct⟩
    | scan => exact ⟨h.params, h.sensors.distinct⟩
    | changes => exact ⟨h.params, h.sensors.distinct⟩
    | seed k label home =>
      simp only [State.performWork, State.workSeed]
      split
      · exact ⟨h.params, h.sensors.distinct⟩
      · split <;> exact ⟨h.params, h.sensors.distinct⟩
    | mark k muted pinned =>
      simp only [State.performWork, State.workMark, State.onRecord]
      split
      · dsimp only
        split <;> exact ⟨h.params, h.sensors.distinct⟩
      · exact ⟨h.params, h.sensors.distinct⟩
    | clearStats k =>
      simp only [State.performWork, State.workClearStats, State.onRecord]
      split <;> exact ⟨h.params, h.sensors.distinct⟩
    | retire k =>
      simp only [State.performWork, State.workRetire, State.onRecord]
      split <;> exact ⟨h.params, h.sensors.distinct⟩
  exact ⟨hw.1, ⟨hw.2, fun _ _ _ ht => by cases ht⟩⟩

theorem grant (h : ConfigurationLaw s) {r : Requester} (hg : s.grantChoice = some r) :
    ConfigurationLaw (s.grant r) := by
  cases r with
  | port => exact h.grantPort hg
  | fold =>
    obtain ⟨i, table, zones, arbiter, -, -, e⟩ := State.grant_fold hg
    rw [e]
    exact h.same rfl rfl rfl
  | sweep =>
    obtain ⟨table, zones, arbiter, pass, cursor, -, e⟩ := s.grant_sweep
    rw [e]
    exact h.same rfl rfl rfl

theorem effect (h : ConfigurationLaw s) (he : s.Effect t) : ConfigurationLaw t := by
  refine h.keep ?_ he.sensors fun hold c e ht => ?_
  · rcases he.params with hp | ⟨p, v, hg, hp⟩ <;> rw [hp]
    · exact h.params
    · exact h.params.store hg v
  · obtain ⟨view, hp⟩ := he.port
    rw [hp] at ht
    exact ht

theorem outcome (h : ConfigurationLaw s) (ho : s.Outcome t) : ConfigurationLaw t := by
  cases ho with
  | answered he hold status payload => exact (h.effect he).respond hold status payload
  | waits hold work hw =>
    refine ⟨h.params, ⟨h.sensors.distinct, fun hold' c e ht => ?_⟩⟩
    have hwork : work = .sensor c e := by
      simp only [State.await, State.updPort_port, Option.some.injEq, PortRequest.mk.injEq,
        RequestStage.waiting.injEq] at ht
      exact ht.2
    exact hw c e hwork
  | defers hold stage hs =>
    refine h.keep h.params rfl fun hold' c e ht => ?_
    rcases hs with rfl | rfl <;> cases ht

theorem complete (h : ConfigurationLaw s) : ConfigurationLaw s.completeOperation := by
  rcases s.completeOperation_cases with ⟨-, e⟩ | ⟨op, -, -, e⟩ | ⟨op, -, -, e⟩ <;> rw [e]
  · exact h
  · have h1 : ConfigurationLaw (s.updArbiter fun a => { a with operation := none }) := h.same rfl rfl rfl
    generalize (s.updArbiter fun a => { a with operation := none }) = u at h1
    have h2 : ConfigurationLaw (if u.arbiter.breaking then u.forceRelease else u) := by
      split
      · exact h1.same rfl rfl rfl
      · exact h1
    rcases u.completePort_cases with ⟨hold, status, payload, -, e⟩ | ⟨-, e⟩ <;> rw [e]
    · exact h2.respond hold status payload
    · exact h2
  · have h1 : ConfigurationLaw ((s.updArbiter fun a => { a with operation := none }).finished op) :=
      h.same rfl rfl rfl
    generalize (s.updArbiter fun a => { a with operation := none }) = u at h1
    have h2 := (h1.path (.testRequestedDrain _)).path (.testRuptureDrain _)
    rcases u.completeBackground_cases op with ⟨e, -⟩ | ⟨hold, -, e⟩ | ⟨hold, -, e⟩ <;> rw [e]
    · exact h2
    · exact (h2.effect .stopped).respond hold _ _
    · exact (h2.effect .engineReset).respond hold _ _

theorem lockExpiry (h : ConfigurationLaw s) : ConfigurationLaw s.testLockExpiry := by
  rcases s.testLockExpiry_cases with ⟨-, e⟩ | ⟨-, e⟩ | ⟨-, e⟩ <;> rw [e]
  · exact h.same rfl rfl rfl
  · exact h.same rfl rfl rfl
  · exact h

theorem reads (h : ConfigurationLaw s) (n : Nat) (overtaken : Bool) :
    ConfigurationLaw (s.readResponse n overtaken) := by
  unfold State.readResponse
  split
  · exact h
  · split
    · exact h.keep h.params rfl fun _ _ _ ht => ht
    · dsimp only
      split <;> exact h.keep h.params rfl fun _ _ _ ht => ht

end ConfigurationLaw

/-- The parameters after RESET lie in their ranges (Table 11-4). -/
theorem paramLaw_reset : ParamLaw Params.reset := by
  have hring (i : Fin 16) : (Vector.replicate 16 0)[i] = 0 := by simp
  intro q
  cases q with
  | geometry g =>
    cases g with
    | ringPos i => exact ⟨Nat.zero_le _, Nat.le_trans (Nat.le_of_eq (hring i)) (Nat.zero_le _)⟩
    | colPos i => exact ⟨Nat.zero_le _, Nat.le_trans (Nat.le_of_eq (hring i)) (Nat.zero_le _)⟩
    | _ => decide
  | _ => decide

theorem sensorLaw_reset (l : List Instr) (a : Bool) :
    SensorLaw { State.reset with pending := l, resetAsserted := a } := by
  refine ⟨fun c d hc => ?_, fun hold c e ht => by cases ht⟩
  have : (Vector.replicate 64 ({ ring := 0, column := 0, enabled := false } : Sensor))[c].enabled = true := hc
  simp at this

theorem stepLaw_configuration : StepLaw ConfigurationLaw where
  reset l a := ⟨paramLaw_reset, sensorLaw_reset l a⟩
  queue s l h := h.same rfl rfl rfl
  work {s t} hd h := by
    cases hd with
    | nothing => exact h
    | grant hr => exact h.grant hr
    | tick => exact h.same rfl rfl rfl
    | hitCharacter l ch => exact h.path (.takeHitCharacter s l ch)
    | merge => exact h.path (.mergeServe s)
    | endRestart => exact h.path (.endRestart s)
    | endSettle => exact h.path (.endSettle s)
    | takeHit => exact h.path (.takeHit s)
    | expireEvent => exact h.path (.expireEvent s)
    | plinCharacter ch => exact h.path (.takePlinCharacter s ch)
    | sampleTimeout => exact h.path (.testSampleTimeout s)
    | sweepTimer => exact h.path (.expireSweepTimer s)
    | complete => exact h.complete
    | requestedDrain => exact h.path (.testRequestedDrain s)
    | ruptureDrain => exact h.path (.testRuptureDrain s)
    | lockExpiry => exact h.lockExpiry
    | frameStart => unfold State.startFrame; split <;> exact h.same rfl rfl rfl
    | collides n => exact h.keep h.params rfl fun _ _ _ ht => ht
    | requests n _ ho =>
      have hf : ConfigurationLaw (s.clockFiller n) := h.keep h.params rfl fun _ _ _ ht => ht
      exact hf.outcome ho
    | reads n overtaken => exact h.reads n overtaken

/-- Settles O60: the law of the configuration is one of those that every step keeps. -/
theorem stepKeepsConfigurationLaw : Obligations.StepKeepsConfigurationLaw := by
  intro s t hp hs ht
  have h := stepLaw_configuration.step_keeps ⟨hp, hs⟩ ht
  exact ⟨h.params, h.sensors⟩

end Sys2Proof.Machine
end

section
/-! The statement about the order of requests, grants and the lock (R143, R144, R149, R151, R176). -/

namespace Sys2Proof.Machine

/-! ### Whose operation is in progress -/

section
variable {s : State} {op : Operation}

theorem State.portBusyAtTable_some (h : s.arbiter.operation = some op) :
    s.portBusyAtTable = (op.requester == .port) := by
  simp only [State.portBusyAtTable, h]

theorem State.portBusyAtTable_none (h : s.arbiter.operation = none) : s.portBusyAtTable = false := by
  simp only [State.portBusyAtTable, h]

/-- A fold or slice is in progress exactly where an operation is that is not PORT's (R143, R160). -/
theorem State.backgroundBusy_some (h : s.arbiter.operation = some op) :
    s.backgroundBusy = !(op.requester == .port) := by
  simp only [State.backgroundBusy, h]
  cases op.requester <;> rfl

theorem State.backgroundBusy_none (h : s.arbiter.operation = none) : s.backgroundBusy = false := by
  simp only [State.backgroundBusy, h]

end

/-- The lock's expiry by whether a PORT operation is in progress (R151). -/
theorem State.testLockExpiry_eq (s : State) :
    s.testLockExpiry =
      if s.lockExpired then
        if s.portBusyAtTable then s.updArbiter fun a => { a with breaking := true } else s.forceRelease
      else s := by
  unfold State.testLockExpiry State.expireLock State.portBusyAtTable
  cases s.arbiter.operation with
  | none => rfl
  | some op =>
    obtain ⟨r, _, _, _, _, _, _, _⟩ := op
    cases r <;> rfl

/-- Where the port is not busy and its law holds, no PORT operation is in progress (R144, R179). -/
theorem PortLaw.portBusyAtTable_eq_false {s : State} (h : PortLaw s) (hq : s.port.request = none) :
    s.portBusyAtTable = false := by
  rw [← h.granted, State.requestGranted, hq]

theorem PortLaw.breaking_eq_false {s : State} (h : PortLaw s) (hb : s.portBusyAtTable = false) :
    s.arbiter.breaking = false := by
  cases hbr : s.arbiter.breaking
  · rfl
  · exact absurd (h.breaking hbr).2 (by simp [hb])

theorem State.portBusy_eq_false {s : State} :
    s.portBusy = false ↔ s.port.request = none ∧ s.port.response = none := by
  simp [State.portBusy]

/-! ### The effects of requests on the Arbiter -/

/-- A request that needs no table leaves the Arbiter, or a free lock (R150, R151, R165). -/
theorem State.Effect.arbiter {s t : State} (h : s.Effect t) (hb : s.portBusyAtTable = false) :
    t.arbiter = s.arbiter ∨ ∃ starvation lockLost, t.arbiter =
      { s.arbiter with
        locked := false, breaking := false, starvation := starvation, lockLost := lockLost } := by
  cases h
  case started => left; unfold State.startRun; dsimp only; split <;> rfl
  case freezes => left; exact (State.PathOnly.testRequestedDrain _).arbiter_eq
  case engineReset => right; rw [State.resetEngine_eq]; exact ⟨_, _, rfl⟩
  case restarts => left; exact (State.PathOnly.testRuptureDrain s.startRestart).arbiter_eq
  case sampleTimeout v => left; exact (State.PathOnly.testSampleTimeout _).arbiter_eq
  case lockLimit v =>
    have hb' : (s.storeParam .lockLimit v).portBusyAtTable = false := hb
    rw [State.testLockExpiry_eq, hb']
    split
    · exact .inr ⟨_, _, rfl⟩
    · exact .inl rfl
  case annEnable v =>
    left
    unfold State.annEnableWritten
    split
    · rfl
    · split <;> rfl
  all_goals exact .inl rfl

/-! ### The law -/

namespace PortLaw
variable {s t : State}

/-- The law rests on the Arbiter, on the request and on whether a response is pending alone. -/
theorem keep (h : PortLaw s) (ha : t.arbiter = s.arbiter) (hq : t.port.request = s.port.request)
    (hr : s.port.response = none → t.port.response = none) : PortLaw t where
  single hs := hr (h.single (hq ▸ hs))
  granted := by
    have := h.granted
    unfold State.requestGranted State.portBusyAtTable at *
    rw [hq, ha, this]
  locked hl := by
    have := h.locked (ha ▸ hl)
    unfold State.backgroundBusy at *
    rw [ha, this]
  breaking hbr := by
    have := h.breaking (ha ▸ hbr)
    unfold State.portBusyAtTable at *
    rw [ha]
    exact this
  recency := ha ▸ h.recency

theorem same (h : PortLaw s) (ha : t.arbiter = s.arbiter) (hp : t.port = s.port) : PortLaw t :=
  h.keep ha (congrArg Port.request hp) fun hr => (congrArg Port.response hp).trans hr

theorem path (h : PortLaw s) (g : s.PathOnly t) : PortLaw t := h.same g.arbiter_eq g.port_eq

theorem moveToFront_perm {l : List Requester} (h : l.Perm [.port, .fold, .sweep]) (r : Requester) :
    (moveToFront r l).Perm [.port, .fold, .sweep] := by
  refine ((h.filter (· != r)).cons r).trans ?_
  cases r <;> decide

/-- A grant to FOLD or SWEEP: no request is granted, and the lock is free (R146, R149). -/
theorem background (h : PortLaw s) {r : Requester} (hr : r ≠ .port) (ho : s.arbiter.operation = none)
    (hl : s.arbiter.locked = false) (ha : s.Granted r t.arbiter) (hp : t.port = s.port) : PortLaw t := by
  obtain ⟨op, starvation, hop, ha⟩ := ha
  have hbusy : t.portBusyAtTable = false := by
    rw [State.portBusyAtTable_some (s := t) (congrArg Arbiter.operation ha), hop]
    simpa using hr
  have hidle : s.portBusyAtTable = false := State.portBusyAtTable_none ho
  refine ⟨fun hs => ?_, ?_, fun hlt => ?_, fun hbr => ?_, ?_⟩
  · rw [hp] at hs ⊢
    exact h.single hs
  · rw [hbusy, ← hidle, ← h.granted]
    simp only [State.requestGranted, hp]
  · rw [ha] at hlt
    exact absurd hlt (by simp [hl])
  · rw [ha] at hbr
    exact absurd hbr (by simp [h.breaking_eq_false hidle])
  · rw [ha]
    exact moveToFront_perm h.recency r

theorem grantPort (h : PortLaw s) (hg : s.grantChoice = some .port) : PortLaw (s.grant .port) := by
  obtain ⟨hold, work, hq⟩ := State.portWork_of_choice hg
  have ho := (State.grantChoice_port hg).1
  rw [State.grant_port hq]
  refine ⟨fun _ => h.single (by rw [hq]; rfl), rfl, fun _ => rfl, fun hbr => ?_, moveToFront_perm h.recency .port⟩
  have hbr : s.arbiter.breaking = true := hbr
  exact absurd hbr (by simp [h.breaking_eq_false (State.portBusyAtTable_none ho)])

theorem grant (h : PortLaw s) {r : Requester} (hg : s.grantChoice = some r) : PortLaw (s.grant r) := by
  cases r with
  | port => exact h.grantPort hg
  | fold =>
    obtain ⟨ho, hl, -⟩ := State.grantChoice_fold hg
    obtain ⟨i, table, zones, arbiter, -, ha, e⟩ := State.grant_fold hg
    rw [e]
    exact h.background (r := .fold) nofun ho hl ha rfl
  | sweep =>
    obtain ⟨ho, hl, -⟩ := State.grantChoice_sweep hg
    obtain ⟨table, zones, arbiter, pass, cursor, ha, e⟩ := s.grant_sweep
    rw [e]
    exact h.background (r := .sweep) nofun ho hl ha rfl

/-- Where no operation is PORT's and no release waits, an answer that the port's request gets keeps the law. -/
theorem respond (hb : s.portBusyAtTable = false) (hbr : s.arbiter.breaking = false)
    (hl : s.arbiter.locked = true → s.backgroundBusy = false)
    (hr : s.arbiter.recency.Perm [.port, .fold, .sweep]) (hold : Bool) (status : Status) (payload : Payload) :
    PortLaw (s.respond hold status payload) := by
  have hop : (s.respond hold status payload).arbiter.operation = s.arbiter.operation := by simp
  have hbusy : (s.respond hold status payload).portBusyAtTable = false := by
    rw [← hb, State.portBusyAtTable, State.portBusyAtTable, hop]
  refine ⟨fun hs => by simp at hs, ?_, fun hlt => ?_, fun hbt => ?_, by simpa using hr⟩
  · rw [hbusy]
    simp [State.requestGranted]
  · have hlt : hold = true ∧ s.arbiter.locked = true := by simpa using hlt
    have := hl hlt.2
    rw [State.backgroundBusy] at this ⊢
    rw [hop, this]
  · simp [hbr] at hbt

/-- With no request in progress: a request's effect, then its answer. -/
theorem answered (h : PortLaw s) (hq : s.port.request = none) (he : s.Effect t) (hold : Bool) (status : Status)
    (payload : Payload) : PortLaw (t.respond hold status payload) := by
  have hb := h.portBusyAtTable_eq_false hq
  rcases he.arbiter hb with ha | ⟨starvation, lockLost, ha⟩
  · refine respond ?_ ?_ (fun hl => ?_) (ha ▸ h.recency) hold status payload
    · rw [← hb, State.portBusyAtTable, State.portBusyAtTable, ha]
    · rw [ha]
      exact h.breaking_eq_false hb
    · have := h.locked (ha ▸ hl)
      rw [State.backgroundBusy] at this ⊢
      rw [ha, this]
  · refine respond ?_ (by rw [ha]) (fun hl => by rw [ha] at hl; cases hl) (by rw [ha]; exact h.recency) hold
      status payload
    rw [← hb, State.portBusyAtTable, State.portBusyAtTable, ha]

/-- With the port not busy, a request that is taken and waits keeps the law (R176). -/
theorem takes (h : PortLaw s) (hq : s.port.request = none) (hr : s.port.response = none) (q : PortRequest)
    (hg : (s.updPort fun p => { p with request := some q }).requestGranted = false) :
    PortLaw (s.updPort fun p => { p with request := some q }) :=
  ⟨fun _ => hr, hg.trans (h.portBusyAtTable_eq_false hq).symm, h.locked, h.breaking, h.recency⟩

theorem outcome (h : PortLaw s) (hb : s.portBusy = false) (ho : s.Outcome t) : PortLaw t := by
  obtain ⟨hq, hr⟩ := State.portBusy_eq_false.mp hb
  cases ho with
  | answered he hold status payload => exact h.answered hq he hold status payload
  | waits hold work hw => exact h.takes hq hr _ rfl
  | defers hold stage hs => rcases hs with rfl | rfl <;> exact h.takes hq hr _ rfl

/-- With no operation in progress and no release that waits, an answer to any request keeps the law. -/
theorem respondIdle (ho : s.arbiter.operation = none) (hbr : s.arbiter.breaking = false)
    (hr : s.arbiter.recency.Perm [.port, .fold, .sweep]) (hold : Bool) (status : Status) (payload : Payload) :
    PortLaw (s.respond hold status payload) :=
  respond (State.portBusyAtTable_none ho) hbr (fun _ => State.backgroundBusy_none ho) hr hold status payload

theorem complete (h : PortLaw s) : PortLaw s.completeOperation := by
  rcases s.completeOperation_cases with ⟨-, e⟩ | ⟨op, ho, hop, e⟩ | ⟨op, ho, hop, e⟩ <;> rw [e]
  · exact h
  · have hgranted : s.requestGranted = true := by
      rw [h.granted, State.portBusyAtTable_some ho, hop]
      rfl
    have hgranted : (s.updArbiter fun a => { a with operation := none }).requestGranted = true := hgranted
    have hidle : (s.updArbiter fun a => { a with operation := none }).arbiter.operation = none := rfl
    have hrec : (s.updArbiter fun a => { a with operation := none }).arbiter.recency.Perm
      [.port, .fold, .sweep] := h.recency
    generalize (s.updArbiter fun a => { a with operation := none }) = u at hgranted hidle hrec
    rcases u.completePort_cases with ⟨hold, status, payload, -, e⟩ | ⟨hno, -⟩
    · rw [e]
      split
      · exact respondIdle (s := u.forceRelease) hidle rfl hrec _ _ _
      · next hbr => exact respondIdle hidle (Bool.eq_false_iff.mpr hbr) hrec _ _ _
    · rw [hgranted] at hno
      cases hno
  · have hbusy : s.portBusyAtTable = false := by
      rw [State.portBusyAtTable_some ho]
      simpa using hop
    have hbr := h.breaking_eq_false hbusy
    have hdone : ((s.updArbiter fun a => { a with operation := none }).finished op).PathOnly
        ((s.updArbiter fun a => { a with operation := none }).finished
          op).testRequestedDrain.testRuptureDrain :=
      (State.PathOnly.testRequestedDrain _).trans (.testRuptureDrain _)
    have ha := hdone.arbiter_eq
    have hp := hdone.port_eq
    have hcases := (s.updArbiter fun a => { a with operation := none }).completeBackground_cases op
    dsimp only at hcases
    generalize ((s.updArbiter fun a => { a with operation := none }).finished
      op).testRequestedDrain.testRuptureDrain = t at hcases ha hp
    have ho : t.arbiter.operation = none := congrArg Arbiter.operation ha
    have hbr : t.arbiter.breaking = false := (congrArg Arbiter.breaking ha).trans hbr
    have hrec : t.arbiter.recency.Perm [.port, .fold, .sweep] := by
      rw [ha]
      exact h.recency
    rcases hcases with ⟨e, -⟩ | ⟨hold, -, e⟩ | ⟨hold, -, e⟩ <;> rw [e]
    · refine ⟨fun hs => ?_, ?_, fun _ => State.backgroundBusy_none ho, fun hb => ?_, hrec⟩
      · rw [hp] at hs ⊢
        exact h.single hs
      · rw [State.portBusyAtTable_none ho, ← hbusy, ← h.granted]
        simp only [State.requestGranted, hp]
        rfl
      · rw [hbr] at hb
        cases hb
    · exact respondIdle (s := t.stopRun) ho hbr hrec _ _ _
    · refine respondIdle (s := t.resetEngine) ?_ ?_ ?_ _ _ _ <;> rw [State.resetEngine_eq]
      · exact ho
      · exact hrec

theorem lockExpiry (h : PortLaw s) : PortLaw s.testLockExpiry := by
  rw [State.testLockExpiry_eq]
  split
  · next hx =>
    have hlocked : s.arbiter.locked = true := by
      simp only [State.lockExpired, Bool.and_eq_true] at hx
      exact hx.1.1
    split
    · next hb => exact ⟨h.single, h.granted, h.locked, fun _ => ⟨hlocked, hb⟩, h.recency⟩
    · exact ⟨h.single, h.granted, nofun, nofun, h.recency⟩
  · exact h

theorem reads (h : PortLaw s) (n : Nat) (overtaken : Bool) : PortLaw (s.readResponse n overtaken) := by
  unfold State.readResponse
  split
  · exact h
  · split
    · exact h.keep rfl rfl id
    · dsimp only
      split
      · exact h.keep rfl rfl fun _ => rfl
      · exact h.keep rfl rfl id

end PortLaw

theorem portLaw_reset (l : List Instr) (a : Bool) :
    PortLaw { State.reset with pending := l, resetAsserted := a } := by
  refine ⟨fun _ => rfl, rfl, fun _ => rfl, nofun, ?_⟩
  show [Requester.fold, .sweep, .port].Perm [.port, .fold, .sweep]
  decide

theorem stepLaw_port : StepLaw PortLaw where
  reset := portLaw_reset
  queue s l h := h.same rfl rfl
  work {s t} hd h := by
    cases hd with
    | nothing => exact h
    | grant hr => exact h.grant hr
    | tick => exact h.same rfl rfl
    | hitCharacter l ch => exact h.path (.takeHitCharacter s l ch)
    | merge => exact h.path (.mergeServe s)
    | endRestart => exact h.path (.endRestart s)
    | endSettle => exact h.path (.endSettle s)
    | takeHit => exact h.path (.takeHit s)
    | expireEvent => exact h.path (.expireEvent s)
    | plinCharacter ch => exact h.path (.takePlinCharacter s ch)
    | sampleTimeout => exact h.path (.testSampleTimeout s)
    | sweepTimer => exact h.path (.expireSweepTimer s)
    | complete => exact h.complete
    | requestedDrain => exact h.path (.testRequestedDrain s)
    | ruptureDrain => exact h.path (.testRuptureDrain s)
    | lockExpiry => exact h.lockExpiry
    | frameStart => unfold State.startFrame; split <;> exact h.same rfl rfl
    | collides n => exact h.keep rfl rfl id
    | requests n hb ho =>
      have hf : PortLaw (s.clockFiller n) := h.keep rfl rfl id
      exact hf.outcome hb ho
    | reads n overtaken => exact h.reads n overtaken

/-- Settles O59: the law of requests, grants and the lock is one of those that every step keeps. -/
theorem stepKeepsPortLaw : Obligations.StepKeepsPortLaw :=
  fun _ _ h ht => stepLaw_port.step_keeps h ht

end Sys2Proof.Machine
end

section
/-! What the intake and the Event Former can do with hits and events, said once for the laws of the event path. -/

namespace Sys2Proof.Machine

/-! ### The lanes and the Staging FIFO -/

/-- What the reception of a character and the Merge's service do: the intake and the latches alone change, an open
lane stays open and a shut one as it is, and the FIFO does not pass 32 entries (R5, R17). -/
structure State.Receives (s t : State) : Prop where
  frame : t = { s with intake := t.intake, latches := t.latches }
  phase : t.intake.phase = s.intake.phase
  opened : ∀ l, (s.intake.lane l).state.isOpen = true → (t.intake.lane l).state.isOpen = true
  shut : ∀ l, (s.intake.lane l).state.isOpen = false → (t.intake.lane l).state = (s.intake.lane l).state
  fifo : t.intake.fifo.length ≤ max 32 s.intake.fifo.length

namespace State.Receives
variable {s t u : State}

theorem refl (s : State) : s.Receives s := ⟨rfl, rfl, fun _ => id, fun _ _ => rfl, Nat.le_max_right _ _⟩

theorem trans (h : s.Receives t) (g : t.Receives u) : s.Receives u where
  frame := by
    rw [g.frame, h.frame]
  phase := g.phase.trans h.phase
  opened l hl := g.opened l (h.opened l hl)
  shut l hl := by
    have := h.shut l hl
    rw [g.shut l (by rw [this]; exact hl), this]
  fifo := by
    have := h.fifo
    have := g.fifo
    omega

/-- An update that leaves the phase, the lanes' states and the FIFO. -/
theorem intake {f : Intake → Intake} (hphase : (f s.intake).phase = s.intake.phase)
    (hlane : ∀ l, ((f s.intake).lane l).state = (s.intake.lane l).state)
    (hfifo : (f s.intake).fifo = s.intake.fifo) : s.Receives (s.updIntake f) :=
  ⟨rfl, hphase, fun l hl => (congrArg LaneState.isOpen (hlane l)).trans hl, fun l _ => hlane l,
    by rw [State.updIntake_intake, hfifo]; exact Nat.le_max_right _ _⟩

theorem latches (s : State) (f : Latches → Latches) : s.Receives (s.updLatches f) :=
  ⟨rfl, rfl, fun _ => id, fun _ _ => rfl, Nat.le_max_right _ _⟩

/-- An update of a lane that keeps its receive state. -/
theorem laneKept (s : State) (l : Lane) {f : LaneReceiver → LaneReceiver} (hf : ∀ r, (f r).state = r.state) :
    s.Receives (s.updLane l f) := by
  refine intake ?_ (fun m => ?_) ?_ <;> cases l
  case refine_2.a =>
    cases m
    · exact hf _
    · rfl
  case refine_2.b =>
    cases m
    · rfl
    · exact hf _
  all_goals rfl

/-- An update of an open lane that leaves it open. -/
theorem laneOpen (s : State) (l : Lane) {f : LaneReceiver → LaneReceiver}
    (hl : (s.intake.lane l).state.isOpen = true) (hf : ∀ r, (f r).state.isOpen = true) :
    s.Receives (s.updLane l f) := by
  refine ⟨rfl, by cases l <;> rfl, fun m hm => ?_, fun m hm => ?_, by cases l <;> exact Nat.le_max_right _ _⟩
  · cases l <;> cases m <;> first | exact hf _ | exact hm
  · cases l <;> cases m <;> first | rfl | (rw [hl] at hm; cases hm)

theorem offerDescriptor (s : State) (d : Descriptor) : s.Receives (s.offerDescriptor d) := by
  rcases s.offerDescriptor_cases d with ⟨hlt, h⟩ | ⟨-, h⟩ <;> rw [h]
  · refine ⟨rfl, rfl, fun _ => id, fun _ _ => rfl, ?_⟩
    simp only [State.updIntake_intake, List.length_append, List.length_singleton]
    omega
  · exact (intake rfl (fun l => by cases l <;> rfl) rfl).trans (latches _ _)

theorem serveLane (s : State) (l : Lane) : s.Receives (s.serveLane l) := by
  rcases s.serveLane_cases l with ⟨-, h⟩ | ⟨d, -, h⟩ <;> rw [h]
  · exact refl s
  · have hempty : s.Receives (s.updLane l fun r => { r with slot := none }) := laneKept s l fun _ => rfl
    refine (hempty.trans (intake (f := fun i => { i with lastServed := l }) rfl ?_ rfl)).trans (offerDescriptor _ d)
    intro m
    cases m <;> rfl

theorem mergeServe (s : State) : s.Receives s.mergeServe := by
  unfold State.mergeServe
  split
  · exact serveLane s _
  · exact refl s

theorem hitFrame (s : State) (l : Lane) (c : Channel) (bytes : List Byte) : s.Receives (s.hitFrame l c bytes) := by
  unfold State.hitFrame
  split
  · exact intake rfl (fun m => by cases m <;> rfl) rfl
  · dsimp only
    split
    · exact intake rfl (fun m => by cases m <;> rfl) rfl
    · exact (serveLane s l).trans (laneKept _ l fun _ => rfl)

theorem faultFrame (s : State) (l : Lane) (c : Channel) (code : Byte) : s.Receives (s.faultFrame l c code) := by
  unfold State.faultFrame
  split
  · exact laneKept s l fun _ => rfl
  · exact intake rfl (fun m => by cases m <;> rfl) rfl

theorem completeFrame (s : State) (l : Lane) (fr : LaneFrame) : s.Receives (s.completeFrame l fr) := by
  unfold State.completeFrame
  split
  · split
    · exact hitFrame s l _ _
    · exact faultFrame s l _ _
  · exact laneKept s l fun _ => rfl

theorem examineHeader (s : State) (l : Lane) (b : Byte) (hl : (s.intake.lane l).state.isOpen = true) :
    s.Receives (s.examineHeader l b) := by
  have hopen (kind : FrameKind) (c : Channel) : s.Receives (s.openFrame l kind c) := by
    unfold State.openFrame
    split <;> exact laneOpen s l hl fun _ => rfl
  unfold State.examineHeader
  split
  · exact hopen _ _
  · exact hopen _ _
  · exact laneOpen s l hl fun _ => rfl
  · exact laneOpen s l hl fun _ => rfl

theorem takeHitCharacter (s : State) (l : Lane) (ch : Character) : s.Receives (s.takeHitCharacter l ch) := by
  unfold State.takeHitCharacter
  split
  · next hl =>
    split
    · exact refl s
    · unfold State.laneHeader
      split
      · have hfirst := laneOpen s l (f := fun r => { r with state := .hunting, fragments := bump r.fragments })
          hl fun _ => rfl
        exact hfirst.trans (examineHeader _ l _ (hfirst.opened l hl))
      · exact examineHeader s l _ hl
    · unfold State.laneData
      split
      · dsimp only
        split
        · exact laneOpen s l hl fun _ => rfl
        · have hfirst : s.Receives (s.setLaneState l .hunting) := laneOpen s l hl fun _ => rfl
          exact hfirst.trans (completeFrame _ l _)
      · exact refl s
    · unfold State.laneError State.latchLinkError
      exact (laneOpen s l hl fun _ => rfl).trans (latches _ _)
  · exact refl s

end State.Receives

/-! ### Events formed and closed -/

/-- What the placement of a hit or an expiry does before the test of the rupture drain, where `new` are the open events
that the hit makes: the Event Former and the latches alone change; every open event is new or was open; and the queue
takes events that were open or new, under the mark in force, and does not pass 64 (R23, R28 to R36). -/
structure State.Forms (new : OpenEvent → Prop) (s t : State) : Prop where
  frame : t = { s with former := t.former, latches := t.latches }
  opened : ∀ e ∈ t.former.openSet, new e ∨ e ∈ s.former.openSet
  size : t.former.openSet.length ≤ max 4 s.former.openSet.length
  queued : ∃ l, t.former.queue = s.former.queue ++ l ∧ ∀ x ∈ l, x.held = s.boundary ∧
    ∃ e, (new e ∨ e ∈ s.former.openSet) ∧ x.firstHit = e.first.time
  depth : t.former.queue.length ≤ max 64 s.former.queue.length

namespace State.Forms
variable {new : OpenEvent → Prop} {s t u : State}

theorem boundary_eq (h : State.Forms new s t) : t.boundary = s.boundary := by rw [h.frame]; rfl

/-- An update of the Event Former that leaves both lists. -/
theorem counts {f : Former → Former} (ho : (f s.former).openSet = s.former.openSet)
    (hq : (f s.former).queue = s.former.queue) : State.Forms new s (s.updFormer f) where
  frame := rfl
  opened e he := .inr (ho ▸ he)
  size := by rw [State.updFormer_former, ho]; exact Nat.le_max_right _ _
  queued := ⟨[], by rw [State.updFormer_former, hq, List.append_nil], nofun⟩
  depth := by rw [State.updFormer_former, hq]; exact Nat.le_max_right _ _

theorem refl (s : State) : State.Forms new s s := counts (f := id) rfl rfl

theorem trans (h : State.Forms new s t) (g : State.Forms new t u) : State.Forms new s u where
  frame := by rw [g.frame, h.frame]
  opened e he := (g.opened e he).elim .inl (h.opened e)
  size := by
    have := h.size
    have := g.size
    omega
  queued := by
    obtain ⟨l, hl, hin⟩ := h.queued
    obtain ⟨m, hm, gin⟩ := g.queued
    refine ⟨l ++ m, by rw [hm, hl, List.append_assoc], fun x hx => ?_⟩
    rcases List.mem_append.mp hx with hx | hx
    · exact hin x hx
    · obtain ⟨hheld, e, he, hfirst⟩ := gin x hx
      exact ⟨hheld.trans h.boundary_eq, e, he.elim .inl (h.opened e), hfirst⟩
  depth := by
    have := h.depth
    have := g.depth
    omega

/-- An event that leaves the Open Event Set is located and offered to the queue (R34, R35). -/
theorem closeAt (s : State) (i : Nat) (early : Bool) : State.Forms new s (s.closeAt i early) := by
  rcases s.closeAt_cases i early with ⟨-, h⟩ | ⟨e, he, -⟩
  · rw [h]
    exact refl s
  · rw [State.closeAt_eq_closed early he]
    unfold State.closed
    dsimp only
    have hmem : e ∈ s.former.openSet := List.mem_of_getElem? he
    have hsub (q : OpenEvent) (hq : q ∈ s.former.openSet.eraseIdx i) : q ∈ s.former.openSet :=
      List.mem_of_mem_eraseIdx hq
    have hlen : (s.former.openSet.eraseIdx i).length ≤ s.former.openSet.length :=
      (List.eraseIdx_sublist _ _).length_le
    by_cases hfull : 64 ≤ s.former.queue.length
    · simp only [decide_eq_true hfull, if_true]
      exact ⟨rfl, fun q hq => .inr (hsub q hq), Nat.le_trans hlen (Nat.le_max_right _ _),
        ⟨[], (List.append_nil _).symm, nofun⟩, Nat.le_max_right _ _⟩
    · simp only [decide_eq_false hfull, Bool.false_eq_true, if_false]
      refine ⟨rfl, fun q hq => .inr (hsub q hq), Nat.le_trans hlen (Nat.le_max_right _ _), ⟨_, rfl, fun x hx => ?_⟩, ?_⟩
      · obtain rfl := List.mem_singleton.mp hx
        exact ⟨rfl, e, .inr hmem, rfl⟩
      · simp only [List.length_append, List.length_singleton]
        omega

/-- A hit that joins an event makes a new one of it (R28). -/
theorem joinAt {i : Nat} {e : OpenEvent} {d : Descriptor} (hnew : new (e.join d s.params.wait)) : State.Forms new s (s.joinAt i e d) := by
  have hset : State.Forms new s (s.updFormer fun f =>
      { f with openSet := f.openSet.set i (e.join d s.params.wait) }) := by
    refine ⟨rfl, fun q hq => ?_, ?_, ⟨[], (List.append_nil _).symm, nofun⟩, Nat.le_max_right _ _⟩
    · rcases List.mem_or_eq_of_mem_set hq with hq | rfl
      · exact .inr hq
      · exact .inl hnew
    · exact Nat.le_trans (Nat.le_of_eq List.length_set) (Nat.le_max_right _ _)
  unfold State.joinAt
  dsimp only
  split
  · exact hset.trans (closeAt _ i false)
  · exact hset

/-- The early close leaves fewer than 4 open events, or at least one fewer (R32). -/
theorem earlyClose (s : State) : State.Forms new s s.earlyClose ∧
    s.earlyClose.former.openSet.length + 1 ≤ max 4 s.former.openSet.length := by
  unfold State.earlyClose Config.openCapacity
  split
  · next hfull =>
    cases hl : s.former.openSet with
    | nil => simp [hl] at hfull
    | cons a rest =>
      obtain ⟨⟨i, v⟩, hi⟩ := Option.isSome_iff_exists.mp
        (leastIndex_isSome (fun e : OpenEvent => e.expiry) a rest)
      obtain ⟨e, he, -⟩ := leastIndex_some hi
      rw [← hl] at hi he
      simp only [← hl, hi]
      refine ⟨trans (counts rfl rfl) (closeAt _ i true), ?_⟩
      rw [State.closeAt_eq_closed (s := s.updFormer fun f => { f with earlies := bump f.earlies }) true he]
      have hlt : i < s.former.openSet.length := (List.getElem?_eq_some_iff.mp he).1
      have hlen : (s.former.openSet.eraseIdx i).length = s.former.openSet.length - 1 :=
        List.length_eraseIdx_of_lt hlt
      have : (s.former.openSet.eraseIdx i).length + 1 ≤ max 4 s.former.openSet.length := by omega
      exact this
  · next hroom => exact ⟨refl s, by omega⟩

/-- The open events that the placement of a hit makes: the one it opens, and the one it joins (R28, R31). -/
def newOf (s : State) (d : Descriptor) (e : OpenEvent) : Prop :=
  e = s.newEvent d ∨ ∃ q ∈ s.former.openSet, q.memberCount < 8 ∧ e = q.join d s.params.wait

theorem openEvent (s : State) (d : Descriptor) : State.Forms (newOf s d) s (s.openEvent d) := by
  obtain ⟨hclose, hlen⟩ := earlyClose (new := newOf s d) s
  refine ⟨?_, fun e he => ?_, ?_, hclose.queued, hclose.depth⟩
  · have hframe := hclose.frame
    generalize hu : s.earlyClose = u at hframe
    rw [State.openEvent, hu, hframe]
    rfl
  · rcases List.mem_append.mp he with he | he
    · exact hclose.opened e he
    · exact .inl (.inl (List.mem_singleton.mp he))
  · simpa [State.openEvent] using hlen

/-- The placement of a hit that is discarded, turned away, joins or opens an event (R25 to R32). -/
theorem placeHit (s : State) (d : Descriptor) :
    State.Forms (fun e => s.postRupture d = false ∧ newOf s d e) s (s.placeHit d) := by
  have weaken {u : State} (hp : s.postRupture d = false) (h : State.Forms (newOf s d) s u) :
      State.Forms (fun e => s.postRupture d = false ∧ newOf s d e) s u := by
    refine ⟨h.frame, fun e he => (h.opened e he).imp_left (⟨hp, ·⟩), h.size, ?_, h.depth⟩
    obtain ⟨l, hl, hin⟩ := h.queued
    refine ⟨l, hl, fun x hx => ?_⟩
    obtain ⟨hheld, e, he, hfirst⟩ := hin x hx
    exact ⟨hheld, e, he.imp_left (⟨hp, ·⟩), hfirst⟩
  rcases s.placeHit_cases d with
    ⟨-, h⟩ | ⟨hp, i, -, ⟨-, h⟩ | ⟨e, he, ⟨-, h⟩ | ⟨hm, h⟩⟩⟩ | ⟨hp, -, ⟨-, h⟩ | ⟨-, h⟩⟩ <;> rw [h]
  · exact counts rfl rfl
  · exact refl s
  · exact counts rfl rfl
  · exact weaken hp (joinAt (.inr ⟨e, List.mem_of_getElem? he, hm, rfl⟩))
  · exact counts rfl rfl
  · exact weaken hp (openEvent s d)

end State.Forms

/-! ### The drains -/

/-- The tests of the drains change the run state and the latches alone (R167). -/
theorem State.testRequestedDrain_frame (s : State) :
    s.testRequestedDrain =
      { s with run := s.testRequestedDrain.run, latches := s.testRequestedDrain.latches } := by
  rcases s.testRequestedDrain_cases with ⟨-, -, -, h⟩ | h <;> rw [h]
  rfl

theorem State.testRuptureDrain_frame (s : State) :
    s.testRuptureDrain = { s with run := s.testRuptureDrain.run, latches := s.testRuptureDrain.latches } := by
  rcases s.testRuptureDrain_cases with ⟨-, -, -, h⟩ | h <;> rw [h]
  rfl

/-! ### The start of a run -/

/-- START, as one equation (R79, R103, R157). -/
theorem State.startRun_eq (s : State) :
    s.startRun =
      { s with
        monitor := s.monitor.startRun
        table := s.table.mapRecords SourceRecord.startRun
        run := { state := .listening, flavour := none }
        sweep := { s.sweep with timer := some { elapsed := 0, interval := s.params.sweepInterval * 10000 } }
        intake := if s.intake.phase = .done then
            { s.intake with
              laneA := { s.intake.laneA with state := .hunting }
              laneB := { s.intake.laneB with state := .hunting } }
          else s.intake } := by
  by_cases h : s.intake.phase = .done <;>
    simp [State.startRun, State.loadSweepTimer, State.updSweep, State.setLanes, State.setLaneState, State.updLane,
      State.updIntake, Intake.updLane, h]

/-- A new run clears the rupture latch (R79). -/
theorem Monitor.startRun_cutoff (m : Monitor) : m.startRun.cutoff = none := by
  unfold Monitor.startRun
  dsimp only
  split <;> rfl

/-! ### What shrinks -/

/-- No queue on the way of a hit holds more, no open event is new, no more passes are owed, and what stands is still
before the cutoff. -/
structure State.Shrinks (s t : State) : Prop where
  fifo : t.intake.fifo.length ≤ s.intake.fifo.length
  openSet : t.former.openSet.Sublist s.former.openSet
  queue : t.former.queue.length ≤ s.former.queue.length
  backlog : t.sweep.backlog ≤ s.sweep.backlog
  cutoff : CutoffLaw s → CutoffLaw t

namespace State.Shrinks
variable {s t u : State}

theorem of_eq (hi : t.intake.fifo = s.intake.fifo) (ho : t.former.openSet = s.former.openSet)
    (hq : t.former.queue = s.former.queue) (hb : t.sweep.backlog = s.sweep.backlog)
    (hc : t.monitor.cutoff = s.monitor.cutoff) : s.Shrinks t :=
  ⟨hi ▸ Nat.le_refl _, ho ▸ List.Sublist.refl _, hq ▸ Nat.le_refl _, hb ▸ Nat.le_refl _, fun h c hs => by rw [ho, hq]; exact h c (hc ▸ hs)⟩

theorem refl (s : State) : s.Shrinks s := of_eq rfl rfl rfl rfl rfl

theorem trans (h : s.Shrinks t) (g : t.Shrinks u) : s.Shrinks u :=
  ⟨Nat.le_trans g.fifo h.fifo, g.openSet.trans h.openSet, Nat.le_trans g.queue h.queue,
    Nat.le_trans g.backlog h.backlog,
    fun hc => g.cutoff (h.cutoff hc)⟩

theorem testRequestedDrain (s : State) : s.Shrinks s.testRequestedDrain := by
  rw [s.testRequestedDrain_frame]
  exact of_eq rfl rfl rfl rfl rfl

theorem testRuptureDrain (s : State) : s.Shrinks s.testRuptureDrain := by
  rw [s.testRuptureDrain_frame]
  exact of_eq rfl rfl rfl rfl rfl

/-- The rupture latch discards every event later than the cutoff (R38, R39). -/
theorem latchRupture (s : State) : s.Shrinks s.latchRupture := by
  refine trans ?_ (testRuptureDrain _)
  refine ⟨Nat.le_refl _, List.filter_sublist, ?_, Nat.le_refl _, ?_⟩
  · simp only [State.stopSweepTimer, State.updSweep_former, Former.rupturePurge, List.length_map]
    exact List.length_filter_le _ _
  · rintro - c ⟨⟩
    refine ⟨fun e he => of_decide_eq_true (List.mem_filter.mp he).2, fun e he => ?_⟩
    obtain ⟨q, hq, rfl⟩ := List.mem_map.mp he
    exact of_decide_eq_true (List.mem_filter.mp hq).2

/-- The rules of the phases leave the cutoff (R70 to R73). -/
theorem samplePhase_cutoff (m : Monitor) (p : Params) (pressure : Nat) :
    (m.samplePhase p pressure).cutoff = m.cutoff := by
  unfold Monitor.samplePhase
  split
  · unfold Monitor.sampleNoPressure; split <;> rfl
  · unfold Monitor.sampleLoading
    dsimp only
    split
    · rfl
    · split
      · split <;> rfl
      · rfl
  · unfold Monitor.sampleHolding
    dsimp only
    split
    · rfl
    · split <;> rfl
  · unfold Monitor.sampleUnloading
    dsimp only
    split <;> rfl

theorem takeSample (s : State) (pressure : Nat) (b : Byte) : s.Shrinks (s.takeSample pressure b) := by
  rcases s.takeSample_cases pressure b with ⟨-, h⟩ | ⟨-, t, ⟨rfl, -⟩ | ⟨rfl, -⟩, h⟩ <;> rw [h]
  · exact refl s
  · exact of_eq rfl rfl rfl rfl (samplePhase_cutoff _ _ _)
  · exact (latchRupture s).trans (of_eq rfl rfl rfl rfl (samplePhase_cutoff _ _ _))

theorem takePlinCharacter (s : State) (ch : Character) : s.Shrinks (s.takePlinCharacter ch) := by
  have hplin (u : State) (f : Plin → Plin) : u.Shrinks (u.updPlin f) := of_eq rfl rfl rfl rfl rfl
  have hheader (u : State) (b : Byte) : u.Shrinks (u.examinePlinHeader b) := by
    unfold State.examinePlinHeader
    split <;> exact hplin u _
  unfold State.takePlinCharacter
  split
  · exact refl s
  · unfold State.plinHeader
    split
    · exact (hplin s _).trans (hheader _ _)
    · exact hheader s _
  · unfold State.plinData
    split
    · dsimp only
      split
      · exact hplin s _
      · exact (hplin s _).trans (takeSample _ _ _)
    · exact refl s
  · exact of_eq rfl rfl rfl rfl rfl

theorem testSampleTimeout (s : State) : s.Shrinks s.testSampleTimeout := by
  rcases s.testSampleTimeout_cases with ⟨-, h⟩ | ⟨-, h⟩ <;> rw [h] <;> exact of_eq rfl rfl rfl rfl rfl

theorem testLockExpiry (s : State) : s.Shrinks s.testLockExpiry := by
  rcases s.testLockExpiry_cases with ⟨-, h⟩ | ⟨-, h⟩ | ⟨-, h⟩ <;> rw [h] <;> exact of_eq rfl rfl rfl rfl rfl

/-- The effects of requests discard events, and unmark them (R41 to R43, R158, R162, R165). -/
theorem effect (h : s.Effect t) : s.Shrinks t := by
  cases h
  case started =>
    rw [s.startRun_eq]
    exact ⟨by dsimp only; split <;> exact Nat.le_refl _, List.Sublist.refl _, Nat.le_refl _, Nat.le_refl _,
      fun _ c hc => absurd (s.monitor.startRun_cutoff.symm.trans hc) nofun⟩
  case stopped =>
    exact ⟨Nat.zero_le _, List.nil_sublist _, Nat.zero_le _, Nat.zero_le _, fun _ _ _ => ⟨nofun, nofun⟩⟩
  case freezes =>
    refine trans ?_ (testRequestedDrain _)
    exact of_eq rfl rfl rfl rfl rfl
  case thaws =>
    refine ⟨Nat.le_refl _, List.Sublist.refl _, Nat.le_of_eq (List.length_map _), Nat.le_refl _, fun h c hc => ?_⟩
    obtain ⟨ho, hq⟩ := h c hc
    refine ⟨ho, fun e he => ?_⟩
    obtain ⟨q, hmem, rfl⟩ := List.mem_map.mp he
    exact hq q hmem
  case engineReset =>
    rw [State.resetEngine_eq]
    exact ⟨Nat.zero_le _, List.nil_sublist _, Nat.zero_le _, Nat.zero_le _, fun _ _ _ => ⟨nofun, nofun⟩⟩
  case restarts =>
    refine trans ?_ (testRuptureDrain _)
    exact ⟨Nat.zero_le _, List.nil_sublist _, Nat.le_refl _, Nat.le_refl _, fun h c hc => ⟨nofun, (h c hc).2⟩⟩
  case sampleTimeout v =>
    refine trans ?_ (testSampleTimeout _)
    exact of_eq rfl rfl rfl rfl rfl
  case lockLimit v =>
    refine trans ?_ (testLockExpiry _)
    exact of_eq rfl rfl rfl rfl rfl
  case annEnable v =>
    unfold State.annEnableWritten
    split
    · exact of_eq rfl rfl rfl rfl rfl
    · split <;> exact of_eq rfl rfl rfl rfl rfl
  all_goals exact of_eq rfl rfl rfl rfl rfl

theorem respond (s : State) (hold : Bool) (status : Status) (payload : Payload) :
    s.Shrinks (s.respond hold status payload) := of_eq (by simp) (by simp) (by simp) (by simp) (by simp)

theorem outcome (h : s.Outcome t) : s.Shrinks t := by
  cases h with
  | answered he hold status payload => exact (effect he).trans (respond _ _ _ _)
  | waits => exact of_eq rfl rfl rfl rfl rfl
  | defers => exact of_eq rfl rfl rfl rfl rfl

theorem grant {r : Requester} (hg : s.grantChoice = some r) : s.Shrinks (s.grant r) := by
  cases r with
  | port =>
    obtain ⟨hold, work, hq⟩ := State.portWork_of_choice hg
    rw [State.grant_port hq]
    exact of_eq rfl rfl rfl rfl rfl
  | fold =>
    obtain ⟨i, table, zones, arbiter, -, -, e⟩ := State.grant_fold hg
    rw [e]
    exact ⟨Nat.le_refl _, List.Sublist.refl _, (List.eraseIdx_sublist _ _).length_le, Nat.le_refl _,
      fun h c hc => ⟨(h c hc).1, fun q hq => (h c hc).2 q (List.mem_of_mem_eraseIdx hq)⟩⟩
  | sweep =>
    obtain ⟨table, zones, arbiter, pass, cursor, -, e⟩ := s.grant_sweep
    rw [e]
    exact of_eq rfl rfl rfl rfl rfl

theorem finished (s : State) (op : Operation) : s.Shrinks (s.finished op) := by
  refine ⟨Nat.le_refl _, List.Sublist.refl _, Nat.le_refl _, ?_, id⟩
  unfold State.finished
  dsimp only
  split <;> omega

theorem complete (s : State) : s.Shrinks s.completeOperation := by
  have hidle : s.Shrinks (s.updArbiter fun a => { a with operation := none }) := of_eq rfl rfl rfl rfl rfl
  rcases s.completeOperation_cases with ⟨-, e⟩ | ⟨op, -, -, e⟩ | ⟨op, -, -, e⟩ <;> rw [e]
  · exact refl s
  · generalize (s.updArbiter fun a => { a with operation := none }) = u at hidle
    have hforced : s.Shrinks (if u.arbiter.breaking then u.forceRelease else u) := by
      split
      · exact hidle.trans (of_eq rfl rfl rfl rfl rfl)
      · exact hidle
    rcases u.completePort_cases with ⟨hold, status, payload, -, e⟩ | ⟨-, e⟩ <;> rw [e]
    · exact hforced.trans (respond _ _ _ _)
    · exact hforced
  · generalize (s.updArbiter fun a => { a with operation := none }) = u at hidle
    have hdone := ((hidle.trans (finished u op)).trans (testRequestedDrain _)).trans (testRuptureDrain _)
    rcases u.completeBackground_cases op with ⟨e, -⟩ | ⟨hold, -, e⟩ | ⟨hold, -, e⟩ <;> rw [e]
    · exact hdone
    · exact (hdone.trans (effect .stopped)).trans (respond _ _ _ _)
    · exact (hdone.trans (effect .engineReset)).trans (respond _ _ _ _)

end State.Shrinks

end Sys2Proof.Machine
end

section
/-! The statement about the capacities and the rupture cutoff (R17, R23, R27, R35, R129, R163). -/

namespace Sys2Proof.Machine

/-- The work of a command takes the path of a hit no further, receives a character or serves the Merge, places a hit,
closes an event, or hands an expiry of the sweep timer on. -/
theorem State.Does.path_cases {s t : State} (h : s.Does t) :
    s.Shrinks t ∨ s.Receives t ∨ t = s.takeHit ∨ t = s.expireEvent ∨ t = s.expireSweepTimer := by
  cases h with
  | nothing => exact .inl (.refl s)
  | grant hr => exact .inl (.grant hr)
  | tick => exact .inl (.of_eq rfl rfl rfl rfl rfl)
  | hitCharacter l ch => exact .inr (.inl (.takeHitCharacter s l ch))
  | merge => exact .inr (.inl (.mergeServe s))
  | endRestart => left; unfold State.endRestart; split <;> exact .of_eq rfl rfl rfl rfl rfl
  | endSettle => left; unfold State.endSettle; split <;> exact .of_eq rfl rfl rfl rfl rfl
  | takeHit => exact .inr (.inr (.inl rfl))
  | expireEvent => exact .inr (.inr (.inr (.inl rfl)))
  | plinCharacter ch => exact .inl (.takePlinCharacter s ch)
  | sampleTimeout => exact .inl (.testSampleTimeout s)
  | sweepTimer => exact .inr (.inr (.inr (.inr rfl)))
  | complete => exact .inl (.complete s)
  | requestedDrain => exact .inl (.testRequestedDrain s)
  | ruptureDrain => exact .inl (.testRuptureDrain s)
  | lockExpiry => exact .inl (.testLockExpiry s)
  | frameStart => left; unfold State.startFrame; split <;> exact .of_eq rfl rfl rfl rfl rfl
  | collides => exact .inl (.of_eq rfl rfl rfl rfl rfl)
  | requests n hb ho =>
    have hfiller : s.Shrinks (s.clockFiller n) := .of_eq rfl rfl rfl rfl rfl
    exact .inl (hfiller.trans (.outcome ho))
  | reads n overtaken =>
    left
    unfold State.readResponse
    split
    · exact .refl s
    · split
      · exact .of_eq rfl rfl rfl rfl rfl
      · dsimp only
        split <;> exact .of_eq rfl rfl rfl rfl rfl

/-! ### The open event that a hit makes -/

theorem insertByTime_length (d : Descriptor) (l : List Descriptor) : (insertByTime d l).length = l.length + 1 := by
  induction l with
  | nil => rfl
  | cons e rest ih =>
    unfold insertByTime
    split
    · rw [List.length_cons, ih, List.length_cons]
    · rfl

theorem OpenEvent.join_memberCount (e : OpenEvent) (d : Descriptor) (wait : Nat) :
    (e.join d wait).memberCount = e.memberCount + 1 := by
  unfold OpenEvent.join
  split
  · rfl
  · simp [OpenEvent.memberCount, insertByTime_length]

/-- The first member of an event that a hit joins is the hit or the member that was first (R28). -/
theorem OpenEvent.join_first (e : OpenEvent) (d : Descriptor) (wait : Nat) :
    (e.join d wait).first = d ∨ (e.join d wait).first = e.first := by
  unfold OpenEvent.join
  split
  · exact .inl rfl
  · exact .inr rfl

/-! ### Capacities -/

namespace CapacityLaw
variable {s t : State}

theorem shrinks (h : CapacityLaw s) (g : s.Shrinks t) : CapacityLaw t :=
  ⟨Nat.le_trans g.fifo h.fifo, Nat.le_trans g.openSet.length_le h.openSet, fun e he => h.members e (g.openSet.subset he),
    Nat.le_trans g.queue h.queue, Nat.le_trans g.backlog h.backlog⟩

theorem receives (h : CapacityLaw s) (g : s.Receives t) : CapacityLaw t := by
  obtain ⟨hfifo, hopen, hmembers, hqueue, hbacklog⟩ := h
  have hf := g.fifo
  rw [Nat.max_eq_left hfifo] at hf
  rw [g.frame]
  exact ⟨hf, hopen, hmembers, hqueue, hbacklog⟩

theorem forms {new : OpenEvent → Prop} (hnew : ∀ e, new e → e.memberCount ≤ 8) (h : CapacityLaw s)
    (g : State.Forms new s t) : CapacityLaw t := by
  obtain ⟨hfifo, hopen, hmembers, hqueue, hbacklog⟩ := h
  have hsize := g.size
  have hdepth := g.depth
  rw [Nat.max_eq_left hopen] at hsize
  rw [Nat.max_eq_left hqueue] at hdepth
  rw [g.frame]
  exact ⟨hfifo, hsize, fun e he => (g.opened e he).elim (hnew e) (hmembers e), hdepth, hbacklog⟩

/-- Every member that is placed finds fewer than 8 (R27). -/
theorem placeHit (h : CapacityLaw s) (d : Descriptor) : CapacityLaw (s.placeHit d) := by
  refine forms (fun e he => ?_) h (State.Forms.placeHit s d)
  obtain ⟨-, rfl | ⟨q, -, hq, rfl⟩⟩ := he
  · exact Nat.le_add_left 1 7
  · rw [OpenEvent.join_memberCount]
    exact hq

theorem takeHit (h : CapacityLaw s) : CapacityLaw s.takeHit := by
  unfold State.takeHit
  split
  · exact h
  · next d rest hd =>
    have hrest : s.Shrinks (s.updIntake fun i => { i with fifo := rest }) :=
      ⟨by rw [hd]; exact Nat.le_succ _, List.Sublist.refl _, Nat.le_refl _, Nat.le_refl _, id⟩
    exact ((h.shrinks hrest).placeHit d).shrinks (.testRuptureDrain _)

theorem expireEvent (h : CapacityLaw s) : CapacityLaw s.expireEvent := by
  unfold State.expireEvent
  split
  · exact (forms (new := fun _ => False) nofun h (.closeAt s _ false)).shrinks (.testRuptureDrain _)
  · exact h

/-- A pass more is owed where fewer than 15 were (R129). -/
theorem expireSweepTimer (h : CapacityLaw s) : CapacityLaw s.expireSweepTimer := by
  unfold State.expireSweepTimer State.owePass
  split
  · split
    · next hlt => exact ⟨h.fifo, h.openSet, h.members, h.queue, hlt⟩
    · exact ⟨h.fifo, h.openSet, h.members, h.queue, h.backlog⟩
  · exact h

end CapacityLaw

theorem capacityLaw_reset (l : List Instr) (a : Bool) :
    CapacityLaw { State.reset with pending := l, resetAsserted := a } :=
  ⟨Nat.zero_le _, Nat.zero_le _, nofun, Nat.zero_le _, Nat.zero_le _⟩

theorem stepLaw_capacity : StepLaw CapacityLaw where
  reset := capacityLaw_reset
  queue s l h := ⟨h.fifo, h.openSet, h.members, h.queue, h.backlog⟩
  work hd h := by
    rcases hd.path_cases with g | g | rfl | rfl | rfl
    · exact h.shrinks g
    · exact h.receives g
    · exact h.takeHit
    · exact h.expireEvent
    · exact h.expireSweepTimer

/-! ### The cutoff -/

namespace CutoffLaw
variable {s t : State}

theorem receives (h : CutoffLaw s) (g : s.Receives t) : CutoffLaw t := by
  rw [g.frame]
  exact h

theorem forms {new : OpenEvent → Prop}
    (hnew : ∀ c, s.monitor.cutoff = some c → ∀ e, new e → e.first.time ≤ c) (h : CutoffLaw s)
    (g : State.Forms new s t) : CutoffLaw t := by
  intro c hc
  have hs : s.monitor.cutoff = some c := by rw [← hc, g.frame]
  obtain ⟨hopen, hqueue⟩ := h c hs
  have hmade (e : OpenEvent) (he : new e ∨ e ∈ s.former.openSet) : e.first.time ≤ c :=
    he.elim (hnew c hs e) (hopen e)
  refine ⟨fun e he => hmade e (g.opened e he), fun x hx => ?_⟩
  obtain ⟨l, hl, hin⟩ := g.queued
  rcases List.mem_append.mp (hl ▸ hx) with hx | hx
  · exact hqueue x hx
  · obtain ⟨-, e, he, hfirst⟩ := hin x hx
    exact hfirst ▸ hmade e he

/-- A hit that is placed is not later than the cutoff (R25). -/
theorem placeHit (h : CutoffLaw s) (d : Descriptor) : CutoffLaw (s.placeHit d) := by
  refine forms (fun c hc e he => ?_) h (State.Forms.placeHit s d)
  obtain ⟨hp, he⟩ := he
  have hd : d.time ≤ c := by
    rw [State.postRupture, hc] at hp
    exact Nat.le_of_not_lt (of_decide_eq_false hp)
  obtain rfl | ⟨q, hq, -, rfl⟩ := he
  · exact hd
  · rcases q.join_first d s.params.wait with hf | hf <;> rw [hf]
    · exact hd
    · exact (h c hc).1 q hq

theorem takeHit (h : CutoffLaw s) : CutoffLaw s.takeHit := by
  unfold State.takeHit
  split
  · exact h
  · next d rest hd =>
    have hrest : CutoffLaw (s.updIntake fun i => { i with fifo := rest }) := h
    exact (State.Shrinks.testRuptureDrain _).cutoff (hrest.placeHit d)

theorem expireEvent (h : CutoffLaw s) : CutoffLaw s.expireEvent := by
  unfold State.expireEvent
  split
  · exact (State.Shrinks.testRuptureDrain _).cutoff (forms (new := fun _ => False) nofun h (.closeAt s _ false))
  · exact h

theorem expireSweepTimer (h : CutoffLaw s) : CutoffLaw s.expireSweepTimer := by
  unfold State.expireSweepTimer State.owePass
  split
  · split <;> exact h
  · exact h

end CutoffLaw

theorem cutoffLaw_reset (l : List Instr) (a : Bool) :
    CutoffLaw { State.reset with pending := l, resetAsserted := a } := nofun

theorem stepLaw_cutoff : StepLaw CutoffLaw where
  reset := cutoffLaw_reset
  queue s l h := h
  work hd h := by
    rcases hd.path_cases with g | g | rfl | rfl | rfl
    · exact g.cutoff h
    · exact h.receives g
    · exact h.takeHit
    · exact h.expireEvent
    · exact h.expireSweepTimer

/-- Settles O57: the capacities and the cutoff are two laws that every step keeps. -/
theorem stepKeepsEventPathLaws : Obligations.StepKeepsEventPathLaws :=
  fun _ _ ht => ⟨fun h => stepLaw_capacity.step_keeps h ht, fun h => stepLaw_cutoff.step_keeps h ht⟩

end Sys2Proof.Machine
end

section
/-! The statement about what the run state means to the other blocks (chapter 9). -/

namespace Sys2Proof.Machine

/-! ### The law without the drains -/

/-- What the run state means to the other blocks, but for the ends of the drains (Table 9-1). -/
structure State.RunFits (s : State) : Prop where
  flavour : s.run.flavour.isSome = (s.run.state == .freezing || s.run.state == .frozen)
  timer : s.sweep.timer.isSome = (s.run.state == .listening)
  swept : s.run.state = .setup ∨ s.run.state = .frozen → s.sweep.backlog = 0 ∧ s.sweep.pass = false
  empty : s.run.state = .setup →
    s.intake.laneA.slot = none ∧ s.intake.laneB.slot = none ∧ s.intake.fifo = [] ∧
      s.former.openSet = [] ∧ s.former.queue = []
  lanes : ∀ l, laneFits s (s.intake.lane l).state
  marksLast : s.former.queue.Pairwise fun a b => a.held = true → b.held = true
  unmarked : s.boundary = false → ∀ e ∈ s.former.queue, e.held = false

theorem RunLaw.fits {s : State} (h : RunLaw s) : s.RunFits :=
  ⟨h.flavour, h.timer, h.swept, h.empty, fun | .a => h.laneA | .b => h.laneB, h.marksLast, h.unmarked⟩

theorem State.RunFits.law {s : State} (h : s.RunFits)
    (hreq : s.run.state = .freezing → s.run.flavour = some .requested → s.requestedDrained = false)
    (hrup : s.run.state = .freezing → s.run.flavour = some .rupture → s.ruptureDrained = false) : RunLaw s :=
  ⟨h.flavour, h.timer, h.swept, h.empty, h.lanes .a, h.lanes .b, h.marksLast, h.unmarked, hreq, hrup⟩

/-- The lanes' law rests on the settle phase and on whether the run is in SETUP (R5). -/
theorem laneFits_congr (s : State) {t : State} {l : LaneState} (h : laneFits s l)
    (hp : t.intake.phase = s.intake.phase) (hr : t.run.state = .setup ↔ s.run.state = .setup) : laneFits t l := by
  simpa only [laneFits, hp, hr] using h

/-- Entries that are all marked, or all unmarked, stand in the order of marks. -/
theorem pairwise_held {l : List LocatedEvent} {b : Bool} (h : ∀ x ∈ l, x.held = b) :
    l.Pairwise fun x y => x.held = true → y.held = true := by
  induction l with
  | nil => exact .nil
  | cons x l ih =>
    refine List.pairwise_cons.mpr ⟨fun y hy hx => ?_, ih fun y hy => h y (.tail x hy)⟩
    rw [h y (.tail x hy), ← h x (.head l), hx]

/-! ### What the law rests on -/

/-- The parts of the state that the law rests on are the same, but for a fold or slice in progress. -/
structure State.SameRun (s t : State) : Prop where
  run : t.run = s.run
  phase : t.intake.phase = s.intake.phase
  lane : ∀ l, (t.intake.lane l).state = (s.intake.lane l).state
  slotA : t.intake.laneA.slot = s.intake.laneA.slot
  slotB : t.intake.laneB.slot = s.intake.laneB.slot
  fifo : t.intake.fifo = s.intake.fifo
  openSet : t.former.openSet = s.former.openSet
  queue : t.former.queue = s.former.queue
  timer : t.sweep.timer.isSome = s.sweep.timer.isSome
  backlog : t.sweep.backlog = s.sweep.backlog
  pass : t.sweep.pass = s.sweep.pass

namespace State.SameRun
variable {s t u : State}

theorem refl (s : State) : s.SameRun s := ⟨rfl, rfl, fun _ => rfl, rfl, rfl, rfl, rfl, rfl, rfl, rfl, rfl⟩

theorem of_eq (hr : t.run = s.run) (hi : t.intake = s.intake) (hf : t.former = s.former) (hw : t.sweep = s.sweep) :
    s.SameRun t := by
  constructor <;> intros <;> simp only [hr, hi, hf, hw]

theorem fits (g : s.SameRun t) (h : s.RunFits) : t.RunFits := by
  obtain ⟨hr, hp, hl, ha, hb, hf, ho, hq, ht, hk, hps⟩ := g
  obtain ⟨flavour, timer, swept, empty, lanes, marksLast, unmarked⟩ := h
  constructor <;> simp only [laneFits, State.boundary, hr, hp, ha, hb, hf, ho, hq, ht, hk, hps, hl] <;> assumption

theorem law (g : s.SameRun t) (hbusy : t.backgroundBusy = s.backgroundBusy) (h : RunLaw s) : RunLaw t := by
  refine (g.fits h.fits).law (fun hs hf => ?_) fun hs hf => ?_
  · rw [g.run] at hs hf
    simpa only [State.requestedDrained, g.queue, g.backlog, g.pass, hbusy] using h.requested hs hf
  · rw [g.run] at hs hf
    simpa only [State.ruptureDrained, g.queue, g.openSet, g.backlog, g.pass, hbusy] using h.rupture hs hf

end State.SameRun

/-- A fold or slice is in progress by the Arbiter alone (R160). -/
theorem State.backgroundBusy_eq {s t : State} (h : t.arbiter.operation = s.arbiter.operation) :
    t.backgroundBusy = s.backgroundBusy := by
  simp only [State.backgroundBusy, h]

/-- The law in a state where the blocks it rests on are the same. -/
theorem RunLaw.same {s t : State} (h : RunLaw s) (hr : t.run = s.run) (hi : t.intake = s.intake)
    (hf : t.former = s.former) (hw : t.sweep = s.sweep) (ho : t.arbiter.operation = s.arbiter.operation) : RunLaw t :=
  State.SameRun.law (.of_eq hr hi hf hw) (State.backgroundBusy_eq ho) h

/-! ### The tests of the drains -/

namespace State.RunFits
variable {s t : State}

/-- FROZEN is entered where no pass is owed or in progress (R160, R164). -/
theorem enterFrozen (h : s.RunFits) (hs : s.run.state = .freezing) (hb : s.sweep.backlog = 0)
    (hp : s.sweep.pass = false) : s.enterFrozen.RunFits where
  flavour := h.flavour.trans (by rw [hs]; rfl)
  timer := h.timer.trans (by rw [hs]; rfl)
  swept _ := ⟨hb, hp⟩
  empty := nofun
  lanes l := laneFits_congr s (h.lanes l) rfl ⟨nofun, fun h => absurd (hs.symm.trans h) nofun⟩
  marksLast := h.marksLast
  unmarked hbd := h.unmarked (by
    simp only [State.boundary, hs] at hbd ⊢
    exact hbd)

/-- The test of the requested drain leaves what the law says of it (R160). -/
theorem testRequestedDrain (h : s.RunFits)
    (hrup : s.run.state = .freezing → s.run.flavour = some .rupture → s.ruptureDrained = false) :
    RunLaw s.testRequestedDrain := by
  unfold State.testRequestedDrain
  split
  · next hd =>
    obtain ⟨hs, -, hd⟩ := hd
    simp only [State.requestedDrained, Bool.and_eq_true, beq_iff_eq, Bool.not_eq_true'] at hd
    obtain ⟨⟨⟨-, hb⟩, hp⟩, -⟩ := hd
    exact (h.enterFrozen hs hb hp).law nofun nofun
  · next hd =>
    exact h.law (fun hs hf => Bool.eq_false_iff.mpr fun hdr => hd ⟨hs, hf, hdr⟩) hrup

/-- The test of the rupture drain leaves what the law says of it (R164). -/
theorem testRuptureDrain (h : s.RunFits)
    (hreq : s.run.state = .freezing → s.run.flavour = some .requested → s.requestedDrained = false) :
    RunLaw s.testRuptureDrain := by
  unfold State.testRuptureDrain
  split
  · next hd =>
    obtain ⟨hs, -, hd⟩ := hd
    simp only [State.ruptureDrained, Bool.and_eq_true, beq_iff_eq, Bool.not_eq_true'] at hd
    obtain ⟨⟨⟨-, hb⟩, hp⟩, -⟩ := hd
    exact (h.enterFrozen hs hb hp).law nofun nofun
  · next hd =>
    exact h.law hreq (fun hs hf => Bool.eq_false_iff.mpr fun hdr => hd ⟨hs, hf, hdr⟩)

/-- The two tests at a completion (R160, R164). -/
theorem testDrains (h : s.RunFits) : RunLaw s.testRequestedDrain.testRuptureDrain := by
  by_cases hs : s.run.state = .freezing ∧ s.run.flavour = some .rupture
  · have hsame : s.testRequestedDrain = s := by
      unfold State.testRequestedDrain
      exact if_neg fun hd => absurd (hs.2.symm.trans hd.2.1) (by decide)
    rw [hsame]
    exact h.testRuptureDrain fun _ hf => nomatch hs.2.symm.trans hf
  · have hlaw := h.testRequestedDrain fun hst hf => absurd ⟨hst, hf⟩ hs
    exact hlaw.fits.testRuptureDrain hlaw.requested

/-- While a fold or slice is in progress no drain has ended (R160, R164). -/
theorem busy (h : s.RunFits) (hb : s.backgroundBusy = true) : RunLaw s :=
  h.law (fun _ _ => by simp [State.requestedDrained, hb]) fun _ _ => by simp [State.ruptureDrained, hb]

end State.RunFits

/-! ### The lanes -/

namespace RunLaw
variable {s t : State}

/-- In SETUP no lane is open (R5). -/
theorem shut_of_setup (h : RunLaw s) (hs : s.run.state = .setup) (l : Lane) :
    (s.intake.lane l).state.isOpen = false := by
  have := h.fits.lanes l
  simp only [laneFits, hs, if_true] at this
  split at this <;> rw [this] <;> rfl

/-- A lane of the new state, from its receive state before (R5). -/
theorem laneFits_receives (g : s.Receives t) (hs : s.run.state ≠ .setup) {l : Lane}
    (h : laneFits s (s.intake.lane l).state) : laneFits t (t.intake.lane l).state := by
  have hrun : t.run = s.run := by rw [g.frame]
  unfold laneFits at h ⊢
  rw [hrun, g.phase]
  rw [if_neg hs] at h ⊢
  split at h
  · next hd => rw [if_pos hd]; exact g.opened l h
  · next hd =>
    rw [if_neg hd, g.shut l (by rw [h]; rfl), h]

theorem receives (h : RunLaw s) (hs : s.run.state ≠ .setup) (g : s.Receives t) : RunLaw t := by
  have hlanes (l : Lane) := laneFits_receives g hs (h.fits.lanes l)
  have hf := g.frame
  rw [hf] at hlanes ⊢
  exact ⟨h.flavour, h.timer, h.swept, fun h => absurd h hs, hlanes .a, hlanes .b, h.marksLast, h.unmarked,
    h.requested, h.rupture⟩

theorem hitCharacter (h : RunLaw s) (l : Lane) (ch : Character) : RunLaw (s.takeHitCharacter l ch) := by
  by_cases hs : s.run.state = .setup
  · rw [State.takeHitCharacter_shut ch (h.shut_of_setup hs l)]
    exact h
  · exact h.receives hs (.takeHitCharacter s l ch)

theorem merge (h : RunLaw s) : RunLaw s.mergeServe := by
  by_cases hs : s.run.state = .setup
  · obtain ⟨ha, hb, -⟩ := h.empty hs
    have hsame : s.mergeServe = s := by
      simp only [State.mergeServe, Intake.nextServed, ha, hb, Option.isSome_none]
    rw [hsame]
    exact h
  · exact h.receives hs (.mergeServe s)

/-- At the end of the restart count the lanes stay SETTLING (R19). -/
theorem endRestart (h : RunLaw s) : RunLaw s.endRestart := by
  unfold State.endRestart
  split
  · next hp =>
    have hlanes (l : Lane) : (s.intake.lane l).state = .settling := by
      have := h.fits.lanes l
      rwa [laneFits, if_neg (by rw [hp.1]; nofun)] at this
    exact ⟨h.flavour, h.timer, h.swept, h.empty, hlanes .a, hlanes .b, h.marksLast, h.unmarked, h.requested,
      h.rupture⟩
  · exact h

/-- At the end of the settle count the lanes open, or close in SETUP (R5, R20). -/
theorem endSettle (h : RunLaw s) : RunLaw s.endSettle := by
  unfold State.endSettle
  split
  · have hlane : laneFits ((s.updIntake fun i => { i with phase := .done }).setLanes s.run.laneState)
        s.run.laneState := by
      have hfits : if s.run.state = .setup then s.run.laneState = .closed else s.run.laneState.isOpen = true := by
        by_cases hs : s.run.state = .setup <;> simp [RunControl.laneState, hs, LaneState.isOpen]
      exact hfits
    exact ⟨h.flavour, h.timer, h.swept, h.empty, hlane, hlane, h.marksLast, h.unmarked, h.requested, h.rupture⟩
  · exact h

/-! ### Events -/

/-- Outside SETUP an event that is formed or closed leaves what the run state means, but for the end of a rupture
drain (R36, R37). -/
theorem forms {new : OpenEvent → Prop} (h : RunLaw s) (hs : s.run.state ≠ .setup) (g : State.Forms new s t) :
    RunLaw t.testRuptureDrain := by
  obtain ⟨l, hl, hin⟩ := g.queued
  have hheld (x : LocatedEvent) (hx : x ∈ l) : x.held = s.boundary := (hin x hx).1
  have hf := g.frame
  generalize t.former = former at hf hl
  generalize t.latches = latches at hf
  subst hf
  refine State.RunFits.testRuptureDrain ?_ fun hst hfl => ?_
  · refine ⟨h.flavour, h.timer, h.swept, fun h => absurd h hs, h.fits.lanes, ?_, fun hb x hx => ?_⟩
    · rw [show ({ s with former := former, latches := latches } : State).former.queue = former.queue from rfl, hl]
      refine List.pairwise_append.mpr ⟨h.marksLast, pairwise_held hheld, fun a ha b hb hah => ?_⟩
      rw [hheld b hb]
      refine Decidable.byContradiction fun hbd => ?_
      exact absurd hah (by rw [h.unmarked (Bool.eq_false_iff.mpr hbd) a ha]; nofun)
    · rcases List.mem_append.mp (hl ▸ hx) with hx | hx
      · exact h.unmarked hb x hx
      · exact (hheld x hx).trans hb
  · have hbd : s.boundary = true := by
      simp only [show s.run.state = .freezing from hst, show s.run.flavour = some .requested from hfl, State.boundary]
      rfl
    have hall : l.all (·.held) = true := List.all_eq_true.mpr fun x hx => (hheld x hx).trans hbd
    have hdr := h.requested hst hfl
    simp only [State.requestedDrained] at hdr ⊢
    rw [hl, List.all_append, hall, Bool.and_true]
    exact hdr

theorem takeHit (h : RunLaw s) : RunLaw s.takeHit := by
  unfold State.takeHit
  split
  · exact h
  · next d rest hd =>
    have hs : s.run.state ≠ .setup := fun hs => by
      obtain ⟨-, -, hnil, -⟩ := h.empty hs
      rw [hnil] at hd
      cases hd
    have htaken : RunLaw (s.updIntake fun i => { i with fifo := rest }) :=
      ⟨h.flavour, h.timer, h.swept, fun h => absurd h hs, h.laneA, h.laneB, h.marksLast, h.unmarked, h.requested,
        h.rupture⟩
    exact htaken.forms hs (State.Forms.placeHit _ d)

theorem expireEvent (h : RunLaw s) : RunLaw s.expireEvent := by
  unfold State.expireEvent
  split
  · next i hi =>
    have hs : s.run.state ≠ .setup := fun hs => by
      obtain ⟨-, -, -, hnil, -⟩ := h.empty hs
      simp [State.dueEvent, hnil] at hi
    exact h.forms hs (State.Forms.closeAt (new := fun _ => False) s i false)
  · exact h

/-! ### Samples and the sweep timer -/

/-- The rupture freeze outside SETUP (R163, R164). -/
theorem latchRupture (h : RunLaw s) (hs : s.run.state ≠ .setup) : RunLaw s.latchRupture := by
  unfold State.latchRupture
  have hunheld (e : LocatedEvent) (he : e ∈ (s.former.rupturePurge s.now).queue) : e.held = false := by
    obtain ⟨q, -, rfl⟩ := List.mem_map.mp he
    rfl
  refine State.RunFits.testRuptureDrain ⟨rfl, rfl, nofun, nofun, fun l => ?_, pairwise_held hunheld, fun _ => hunheld⟩
    nofun
  exact laneFits_congr s (h.fits.lanes l) rfl ⟨nofun, fun h => absurd h hs⟩

theorem takeSample (h : RunLaw s) (pressure : Nat) (b : Byte) : RunLaw (s.takeSample pressure b) := by
  rcases s.takeSample_cases pressure b with ⟨-, e⟩ | ⟨-, t, ⟨rfl, -⟩ | ⟨rfl, hr⟩, e⟩ <;> rw [e]
  · exact h
  · exact h.same rfl rfl rfl rfl rfl
  · have hs : s.run.state ≠ .setup := by
      simp only [State.ruptures, Bool.and_eq_true, bne_iff_ne] at hr
      exact hr.1.1
    exact (h.latchRupture hs).same rfl rfl rfl rfl rfl

theorem plinCharacter (h : RunLaw s) (ch : Character) : RunLaw (s.takePlinCharacter ch) := by
  have hplin {u : State} (hu : RunLaw u) (f : Plin → Plin) : RunLaw (u.updPlin f) := hu.same rfl rfl rfl rfl rfl
  have hheader {u : State} (hu : RunLaw u) (b : Byte) : RunLaw (u.examinePlinHeader b) := by
    unfold State.examinePlinHeader
    split <;> exact hplin hu _
  unfold State.takePlinCharacter
  split
  · exact h
  · unfold State.plinHeader
    split
    · exact hheader (hplin h _) _
    · exact hheader h _
  · unfold State.plinData
    split
    · dsimp only
      split
      · exact hplin h _
      · exact (hplin h _).takeSample _ _
    · exact h
  · exact h.same rfl rfl rfl rfl rfl

theorem sampleTimeout (h : RunLaw s) : RunLaw s.testSampleTimeout := by
  rcases s.testSampleTimeout_cases with ⟨-, e⟩ | ⟨-, e⟩ <;> rw [e]
  · exact h.same rfl rfl rfl rfl rfl
  · exact h

theorem lockExpiry (h : RunLaw s) : RunLaw s.testLockExpiry := by
  rcases s.testLockExpiry_cases with ⟨ho, e⟩ | ⟨-, e⟩ | ⟨-, e⟩ <;> rw [e] <;> exact h.same rfl rfl rfl rfl rfl

/-- The timer runs in LISTENING alone, where a pass may be owed (R128). -/
theorem sweepTimer (h : RunLaw s) : RunLaw s.expireSweepTimer := by
  unfold State.expireSweepTimer
  split
  · next hdue =>
    have hs : s.run.state = .listening := by
      have htimer := h.timer
      unfold State.sweepDue at hdue
      split at hdue
      · next ht => simpa [ht] using htimer
      · cases hdue
    have hf := h.fits
    have hfits (w : Sweep) (l : Latches) (hw : w.timer.isSome = true) :
        State.RunFits { s with sweep := w, latches := l } :=
      ⟨hf.flavour, hw.trans (by simp only [hs]; rfl), fun hsf => absurd hsf (by simp [hs]),
        hf.empty, hf.lanes, hf.marksLast, hf.unmarked⟩
    have hlaw (w : Sweep) (l : Latches) (hw : w.timer.isSome = true) :
        RunLaw { s with sweep := w, latches := l } :=
      (hfits w l hw).law (fun hfr => absurd (hs.symm.trans hfr) nofun) fun hfr => absurd (hs.symm.trans hfr) nofun
    unfold State.owePass
    split <;> exact hlaw _ _ rfl
  · exact h

/-! ### Grants -/

/-- FOLD and SWEEP request only while the run listens or drains (R37, R131). -/
theorem background_runs (h : s.foldRequests = true ∨ s.sweepRequests = true) :
    s.run.state ≠ .setup ∧ s.run.state ≠ .frozen := by
  unfold State.foldRequests State.sweepRequests at h
  cases hs : s.run.state <;> simp [hs] at h ⊢

theorem grant {r : Requester} (h : RunLaw s) (hg : s.grantChoice = some r) : RunLaw (s.grant r) := by
  have hf := h.fits
  cases r with
  | port =>
    obtain ⟨hold, work, hq⟩ := State.portWork_of_choice hg
    have ho := (State.grantChoice_port hg).1
    rw [State.grant_port hq]
    refine State.SameRun.law (s := s) ⟨rfl, rfl, fun l => by cases l <;> rfl, rfl, rfl, rfl, rfl, rfl, rfl, rfl, rfl⟩ ?_ h
    rw [State.backgroundBusy_none ho]
    rfl
  | fold =>
    obtain ⟨hset, hfroz⟩ := background_runs (.inl (State.foldRequests_of_background (State.grantChoice_fold hg).2.2))
    obtain ⟨i, table, zones, arbiter, -, ⟨op, starvation, hop, rfl⟩, e⟩ := State.grant_fold hg
    rw [e]
    refine State.RunFits.busy ⟨hf.flavour, hf.timer, hf.swept, fun h => absurd h hset, hf.lanes, ?_, ?_⟩ ?_
    · exact hf.marksLast.sublist (List.eraseIdx_sublist _ _)
    · exact fun hb x hx => hf.unmarked hb x (List.mem_of_mem_eraseIdx hx)
    · simp only [State.backgroundBusy, hop]
      rfl
  | sweep =>
    obtain ⟨hset, hfroz⟩ := background_runs (.inr (State.grantChoice_sweep hg).2.2)
    obtain ⟨table, zones, arbiter, pass, cursor, ⟨op, starvation, hop, rfl⟩, e⟩ := s.grant_sweep
    rw [e]
    refine State.RunFits.busy ⟨hf.flavour, hf.timer, fun hsf => ?_, hf.empty, hf.lanes, hf.marksLast, hf.unmarked⟩ ?_
    · exact absurd hsf (not_or.mpr ⟨hset, hfroz⟩)
    · simp only [State.backgroundBusy, hop]
      rfl

/-! ### The effects of requests -/

theorem started (h : RunLaw s) (hs : s.run.state = .setup) : RunLaw s.startRun := by
  obtain ⟨-, -, -, -, hq⟩ := h.empty hs
  rw [s.startRun_eq]
  refine State.RunFits.law ⟨rfl, rfl, nofun, nofun, fun l => ?_, h.marksLast, fun _ e he => ?_⟩ nofun nofun
  · have := h.fits.lanes l
    unfold laneFits at this ⊢
    dsimp only
    by_cases hd : s.intake.phase = .done
    · rw [if_pos hd, if_pos hd]
      cases l <;> rfl
    · rw [if_neg hd] at this ⊢
      rw [if_neg hd]
      exact this
  · exact absurd (hq ▸ he) List.not_mem_nil

/-- STOP closes the lanes and empties everything between them and the table (R158). -/
theorem stopped (h : RunLaw s) : RunLaw s.stopRun := by
  have hclose (l : Lane) : laneFits s.stopRun (s.intake.lane l).state.close := by
    have := h.fits.lanes l
    suffices hfits : if s.intake.phase = .done then (s.intake.lane l).state.close = .closed
        else (s.intake.lane l).state.close = .settling from hfits
    unfold laneFits at this
    split at this
    · next hd =>
      rw [if_pos hd]
      split at this
      · rw [this]; rfl
      · cases hl : (s.intake.lane l).state <;> rw [hl] at this <;> first | rfl | cases this
    · next hd =>
      rw [if_neg hd, this]
      rfl
  exact ⟨rfl, rfl, fun _ => ⟨rfl, rfl⟩, fun _ => ⟨rfl, rfl, rfl, rfl, rfl⟩, hclose .a, hclose .b, .nil, nofun, nofun,
    nofun⟩

theorem freezes (h : RunLaw s) (hs : s.run.state = .listening) : RunLaw s.freezeRun := by
  unfold State.freezeRun
  have hunheld := h.unmarked (by simp [State.boundary, hs])
  refine State.RunFits.testRequestedDrain
    ⟨rfl, rfl, nofun, nofun, fun l => ?_, pairwise_held hunheld, fun _ => hunheld⟩ nofun
  exact laneFits_congr s (h.fits.lanes l) rfl ⟨nofun, fun h => absurd (hs.symm.trans h) nofun⟩

theorem thaws (h : RunLaw s) (hb : s.boundary = true) : RunLaw s.thawRun := by
  have hunheld (e : LocatedEvent) (he : e ∈ s.thawRun.former.queue) : e.held = false := by
    obtain ⟨q, -, rfl⟩ := List.mem_map.mp he
    rfl
  have hs : s.run.state ≠ .setup := fun hs => by simp [State.boundary, hs] at hb
  refine State.RunFits.law ⟨rfl, rfl, nofun, nofun, fun l => ?_, pairwise_held hunheld, fun _ => hunheld⟩ nofun nofun
  exact laneFits_congr s (h.fits.lanes l) rfl ⟨nofun, fun h => absurd h hs⟩

/-- ENGINE RESET leaves the lanes, and of FREEZING makes FROZEN (R165). -/
theorem engineReset (h : RunLaw s) : RunLaw s.resetEngine := by
  have hrun : (if s.run.state = .freezing then RunState.frozen else s.run.state) ≠ .freezing := by
    split
    · nofun
    · assumption
  rw [State.resetEngine_eq]
  refine State.RunFits.law ⟨?_, ?_, fun _ => ⟨rfl, rfl⟩, fun _ => ⟨rfl, rfl, rfl, rfl, rfl⟩, fun l => ?_, .nil, nofun⟩
    (fun hf => absurd hf hrun) fun hf => absurd hf hrun
  · refine h.flavour.trans ?_
    cases s.run.state <;> rfl
  · refine h.timer.trans ?_
    cases s.run.state <;> rfl
  · have hl := h.fits.lanes l
    have hsame : laneFits s (s.intake.emptyPath.lane l).state := by cases l <;> exact hl
    refine laneFits_congr s hsame rfl ?_
    show (if s.run.state = .freezing then RunState.frozen else s.run.state) = .setup ↔ _
    cases s.run.state <;> decide

/-- RESTART CHANNELS begins the restart phase, and may end a rupture drain (R19, R43, R164). -/
theorem restarts (h : RunLaw s) : RunLaw s.startRestart.testRuptureDrain := by
  have hf := h.fits
  refine State.RunFits.testRuptureDrain ⟨hf.flavour, hf.timer, hf.swept, fun hs => ?_, ?_, hf.marksLast, hf.unmarked⟩
    h.requested
  · exact ⟨rfl, rfl, rfl, rfl, (h.empty hs).2.2.2.2⟩
  · intro l
    cases l <;> rfl

theorem effect (h : RunLaw s) (he : s.Effect t) : RunLaw t := by
  cases he
  case started hs => exact h.started hs
  case stopped => exact h.stopped
  case freezes hs => exact h.freezes hs
  case thaws hb => exact h.thaws hb
  case engineReset => exact h.engineReset
  case restarts => exact h.restarts
  case sampleTimeout v =>
    exact RunLaw.sampleTimeout (s := s.storeParam .sampleTimeout v) (h.same rfl rfl rfl rfl rfl)
  case lockLimit v =>
    exact RunLaw.lockExpiry (s := s.storeParam .lockLimit v) (h.same rfl rfl rfl rfl rfl)
  case annEnable v =>
    unfold State.annEnableWritten
    split
    · exact h.same rfl rfl rfl rfl rfl
    · split <;> exact h.same rfl rfl rfl rfl rfl
  case clears =>
    exact State.SameRun.law (s := s) ⟨rfl, rfl, fun l => by cases l <;> rfl, rfl, rfl, rfl, rfl, rfl, rfl, rfl, rfl⟩ rfl h
  all_goals exact h.same rfl rfl rfl rfl rfl

theorem respond (h : RunLaw s) (hold : Bool) (status : Status) (payload : Payload) :
    RunLaw (s.respond hold status payload) :=
  h.same (by simp) (by simp) (by simp) (by simp) (by simp)

theorem outcome (h : RunLaw s) (ho : s.Outcome t) : RunLaw t := by
  cases ho with
  | answered he hold status payload => exact (h.effect he).respond hold status payload
  | waits => exact h.same rfl rfl rfl rfl rfl
  | defers => exact h.same rfl rfl rfl rfl rfl

/-! ### Completions -/

/-- A fold or slice that is counted, before the drains are tested (R137). -/
theorem finished_fits (h : s.RunFits) (op : Operation) : (s.finished op).RunFits where
  flavour := h.flavour
  timer := h.timer
  swept hs := by
    obtain ⟨hb, hp⟩ := h.swept hs
    refine ⟨?_, hp⟩
    show (if op.endsPass then s.sweep.backlog - 1 else s.sweep.backlog) = 0
    rw [hb]
    split <;> rfl
  empty := h.empty
  lanes := h.lanes
  marksLast := h.marksLast
  unmarked := h.unmarked

theorem complete (h : RunLaw s) : RunLaw s.completeOperation := by
  rcases s.completeOperation_cases with ⟨-, e⟩ | ⟨op, ho, hr, e⟩ | ⟨op, -, -, e⟩ <;> rw [e]
  · exact h
  · have hidle : RunLaw (s.updArbiter fun a => { a with operation := none }) := by
      refine State.SameRun.law (s := s) (.of_eq rfl rfl rfl rfl) ?_ h
      rw [State.backgroundBusy_some ho, hr]
      rfl
    generalize (s.updArbiter fun a => { a with operation := none }) = u at hidle
    have hforced : RunLaw (if u.arbiter.breaking then u.forceRelease else u) := by
      split
      · exact hidle.same rfl rfl rfl rfl rfl
      · exact hidle
    rcases u.completePort_cases with ⟨hold, status, payload, -, e⟩ | ⟨-, e⟩ <;> rw [e]
    · exact hforced.respond _ _ _
    · exact hforced
  · have hfits : (s.updArbiter fun a => { a with operation := none }).RunFits :=
      State.SameRun.fits (s := s) (.of_eq rfl rfl rfl rfl) h.fits
    generalize (s.updArbiter fun a => { a with operation := none }) = u at hfits
    have hdone := (finished_fits hfits op).testDrains
    rcases u.completeBackground_cases op with ⟨e, -⟩ | ⟨hold, -, e⟩ | ⟨hold, -, e⟩ <;> rw [e]
    · exact hdone
    · exact hdone.stopped.respond _ _ _
    · exact hdone.engineReset.respond _ _ _

theorem reads (h : RunLaw s) (n : Nat) (overtaken : Bool) : RunLaw (s.readResponse n overtaken) := by
  unfold State.readResponse
  split
  · exact h
  · split
    · exact h.same rfl rfl rfl rfl rfl
    · dsimp only
      split <;> exact h.same rfl rfl rfl rfl rfl

end RunLaw

theorem runLaw_reset (l : List Instr) (a : Bool) : RunLaw { State.reset with pending := l, resetAsserted := a } :=
  ⟨rfl, rfl, fun _ => ⟨rfl, rfl⟩, fun _ => ⟨rfl, rfl, rfl, rfl, rfl⟩, rfl, rfl, .nil, nofun, nofun, nofun⟩

theorem stepLaw_run : StepLaw RunLaw where
  reset := runLaw_reset
  queue s l h := h.same rfl rfl rfl rfl rfl
  work {s t} hd h := by
    cases hd with
    | nothing => exact h
    | grant hr => exact h.grant hr
    | tick =>
      exact State.SameRun.law (s := s)
        ⟨rfl, rfl, fun l => by cases l <;> rfl, rfl, rfl, rfl, rfl, rfl, Option.isSome_map, rfl, rfl⟩ rfl h
    | hitCharacter l ch => exact h.hitCharacter l ch
    | merge => exact h.merge
    | endRestart => exact h.endRestart
    | endSettle => exact h.endSettle
    | takeHit => exact h.takeHit
    | expireEvent => exact h.expireEvent
    | plinCharacter ch => exact h.plinCharacter ch
    | sampleTimeout => exact h.sampleTimeout
    | sweepTimer => exact h.sweepTimer
    | complete => exact h.complete
    | requestedDrain => exact h.fits.testRequestedDrain h.rupture
    | ruptureDrain => exact h.fits.testRuptureDrain h.requested
    | lockExpiry => exact h.lockExpiry
    | frameStart => unfold State.startFrame; split <;> exact h.same rfl rfl rfl rfl rfl
    | collides n => exact h.same rfl rfl rfl rfl rfl
    | requests n hb ho =>
      have hf : RunLaw (s.clockFiller n) := h.same rfl rfl rfl rfl rfl
      exact hf.outcome ho
    | reads n overtaken => exact h.reads n overtaken

/-- Settles O58: what the run state means to the other blocks is a law that every step keeps. -/
theorem stepKeepsRunLaw : Obligations.StepKeepsRunLaw :=
  fun _ _ h ht => stepLaw_run.step_keeps h ht

end Sys2Proof.Machine
end

section
/-! What a fold and a sweep visit make of a record (chapters 6 and 7). -/

namespace Sys2Proof.Machine

namespace SourceRecord

/-! ### The steps of a fold -/

/-- Step 2 adds a channel that is new to a list of fewer than 4 (R84). -/
theorem foldChannel_eq (e : LocatedEvent) (r : SourceRecord) :
    r.foldChannel e =
      { r with
        others := if e.channel = r.home ∨ e.channel ∈ r.others ∨ 3 ≤ r.others.length then r.others
          else r.others ++ [e.channel] } := by
  have hiff : (r.channels.contains e.channel || decide (4 ≤ r.channels.length)) = true ↔
      e.channel = r.home ∨ e.channel ∈ r.others ∨ 3 ≤ r.others.length := by
    simp [SourceRecord.channels, or_assoc]
  unfold foldChannel
  by_cases h : e.channel = r.home ∨ e.channel ∈ r.others ∨ 3 ≤ r.others.length
  · rw [if_pos (hiff.mpr h), if_pos h]
  · rw [if_neg (mt hiff.mp h), if_neg h]

/-- Step 3 makes the times present (R90). -/
theorem foldTimes_eq (e : LocatedEvent) (r : SourceRecord) :
    r.foldTimes e =
      { r with
        firstTime := some (r.firstTime.getD e.firstHit)
        lastTime := some e.firstHit
        firstPressure := if r.firstTime = none then e.context.pressure else r.firstPressure } := by
  unfold foldTimes
  cases h : r.firstTime with
  | none => simp
  | some t => simp

/-- Step 4 changes the onset, the ratio and FELICITY alone (R111, R112). -/
theorem foldOnset_eq (p : Params) (e : LocatedEvent) (r : SourceRecord) :
    ∃ cycle pressure ratio f,
      r.foldOnset p e =
        { r with
          onsetCycle := cycle, onsetPressure := pressure, felicity := ratio
          met := { r.met with felicity := f } } ∧
      (e.context.pressure = none ∨ r.onsetCycle = e.context.cycle →
        cycle = r.onsetCycle ∧ pressure = r.onsetPressure ∧ ratio = r.felicity ∧ f = r.met.felicity) ∧
      ∀ q, e.context.pressure = some q → r.onsetCycle ≠ e.context.cycle →
        cycle = e.context.cycle ∧ pressure = some q ∧
        (e.context.priorPeak = 0 → ratio = r.felicity ∧ f = r.met.felicity) ∧
        (0 < e.context.priorPeak →
          ratio = some (felicityRatio q e.context.priorPeak) ∧
          f = (r.met.felicity || decide (felicityRatio q e.context.priorPeak < p.felicityLimit))) := by
  unfold foldOnset
  cases hq : e.context.pressure with
  | none => exact ⟨_, _, _, _, rfl, fun _ => ⟨rfl, rfl, rfl, rfl⟩, nofun⟩
  | some q =>
    dsimp only
    split
    · next hc => exact ⟨_, _, _, _, rfl, fun _ => ⟨rfl, rfl, rfl, rfl⟩, fun _ _ hn => absurd hc hn⟩
    · next hc =>
      have hnot : ¬(some q = none ∨ r.onsetCycle = e.context.cycle) := not_or.mpr ⟨nofun, hc⟩
      split
      · next hz =>
        refine ⟨_, _, _, _, rfl, fun h => absurd h hnot, fun q' hq' _ => ?_⟩
        cases hq'
        exact ⟨rfl, rfl, fun _ => ⟨rfl, rfl⟩, fun hp => absurd hz (Nat.ne_of_gt hp)⟩
      · next hz =>
        refine ⟨_, _, _, _, rfl, fun h => absurd h hnot, fun q' hq' _ => ?_⟩
        cases hq'
        exact ⟨rfl, rfl, fun h => absurd h hz, fun _ => ⟨rfl, rfl⟩⟩

/-- Step 5 changes the hold emission and HOLD alone (R114, R115). -/
theorem foldHold_eq (p : Params) (e : LocatedEvent) (r : SourceRecord) :
    ∃ seen current total h,
      r.foldHold p e =
        { r with holdSeen := seen, holdCurrent := current, holdTotal := total, met := { r.met with hold := h } } ∧
      (e.context.phase ≠ .holding →
        seen = r.holdSeen ∧ current = r.holdCurrent ∧ total = r.holdTotal ∧ h = r.met.hold) ∧
      (e.context.phase = .holding →
        seen = e.context.hold ∧
        current = (if r.holdSeen = e.context.hold then min 255 (r.holdCurrent + 1) else 1) ∧
        total = min 65535 (r.holdTotal + 1) ∧ h = (r.met.hold || decide (p.holdLimit ≤ current))) := by
  unfold foldHold
  split
  · next hp =>
    refine ⟨_, _, _, _, rfl, fun h => absurd hp h, fun _ => ⟨rfl, ?_, rfl, rfl⟩⟩
    split <;> rfl
  · next hp => exact ⟨_, _, _, _, rfl, fun _ => ⟨rfl, rfl, rfl, rfl⟩, fun h => absurd h hp⟩

end SourceRecord

/-- A criterion joins where its test is met. -/
theorem or_decide_iff (b : Bool) (q : Prop) [Decidable q] : (b || decide q) = true ↔ b = true ∨ q := by simp

theorem or_and_decide_iff (b c : Bool) (q : Prop) [Decidable q] :
    (b || (c && decide q)) = true ↔ b = true ∨ (c = true ∧ q) := by simp

/-- Settles O26, step by step. -/
theorem foldUpdatesRecord : Obligations.FoldUpdatesRecord := by
  intro p e r
  dsimp only
  have hsteps : r.foldEvent p e = ((((((((r.foldCounters p e).foldChannel e).foldTimes e).foldOnset p e).foldHold p
      e).foldIntensity p).promote p).regrade) := rfl
  generalize r.foldEvent p e = r' at hsteps
  obtain ⟨cycle, pressure, ratio, f, honset, hsame, hnew⟩ :=
    (((r.foldCounters p e).foldChannel e).foldTimes e).foldOnset_eq p e
  rw [honset] at hsteps
  obtain ⟨seen, current, total, h, hhold, hout, hin⟩ := SourceRecord.foldHold_eq p e
    { ((r.foldCounters p e).foldChannel e).foldTimes e with
      onsetCycle := cycle, onsetPressure := pressure, felicity := ratio
      met := { (((r.foldCounters p e).foldChannel e).foldTimes e).met with felicity := f } }
  rw [hhold] at hsteps
  rw [SourceRecord.foldTimes_eq, SourceRecord.foldChannel_eq] at hsteps hsame hnew hout hin
  subst hsteps
  refine ⟨rfl, rfl, rfl, rfl, rfl, rfl, rfl, rfl, rfl, rfl, rfl, rfl, rfl, ?_, rfl, ?_, rfl, rfl, rfl, rfl, rfl, rfl,
    rfl, hsame, fun q hq hc => ?_, hout, fun hp => ?_⟩
  · exact or_decide_iff _ _
  · exact or_decide_iff _ _
  · obtain ⟨hcycle, hpressure, hzero, hpos⟩ := hnew q hq hc
    refine ⟨hcycle, hpressure, hzero, fun h0 => ?_⟩
    obtain ⟨hratio, hf⟩ := hpos h0
    refine ⟨hratio, ?_⟩
    show f = true ↔ _
    rw [hf]
    exact or_decide_iff _ _
  · obtain ⟨hseen, hcurrent, htotal, hh⟩ := hin hp
    refine ⟨hseen, hcurrent, htotal, ?_⟩
    show h = true ↔ r.met.hold = true ∨ p.holdLimit ≤ current
    rw [hh]
    exact or_decide_iff _ _

/-- Settles O30: the steps of a visit are written out in the definition; the activity and twice E stay below 65535. -/
theorem visitDecays : Obligations.VisitDecays := by
  intro p r
  refine ⟨rfl, rfl, rfl, ?_, rfl, rfl, rfl, fun ha he => ?_⟩
  · exact or_and_decide_iff r.met.activity r.tracked _
  · show min 65535 (r.activity - r.activity / 8 + 2 * r.sinceSweep) ≤ 65534
    omega

/-! ### What neither takes away (R118) -/

/-- The criteria are kept, and those of a met-set that counts more. -/
theorem MetSet.count_mono {a b : MetSet} (hf : a.felicity = true → b.felicity = true)
    (hh : a.hold = true → b.hold = true) (ha : a.activity = true → b.activity = true)
    (hi : a.intensity = true → b.intensity = true) : a.count ≤ b.count := by
  have htoNat {x y : Bool} (h : x = true → y = true) : x.toNat ≤ y.toNat := by
    cases x <;> cases y <;> simp at h ⊢
  exact Nat.add_le_add (Nat.add_le_add (Nat.add_le_add (htoNat hf) (htoNat hh)) (htoNat ha)) (htoNat hi)

/-- A grade that follows the state and the met-set does not fall where neither loses anything (R118). -/
theorem grade_mono {a b : SourceRecord} (ha : a.grade = if a.tracked then min 3 a.met.count else 0)
    (hb : b.grade = if b.tracked then min 3 b.met.count else 0) (ht : a.tracked = true → b.tracked = true)
    (hm : a.met.count ≤ b.met.count) : a.grade ≤ b.grade := by
  rw [ha, hb]
  split
  · next h => rw [if_pos (ht h)]; omega
  · exact Nat.zero_le _

namespace SourceRecord

/-- What a fold leaves of a record (R109). -/
theorem foldEvent_kept (p : Params) (e : LocatedEvent) (r : SourceRecord) :
    let r' := r.foldEvent p e
    r'.key = r.key ∧ r'.home = r.home ∧ r'.muted = r.muted ∧ r'.seeded = r.seeded ∧ r'.label = r.label ∧
      r'.report = r.report := by
  obtain ⟨-, -, -, -, -, -, -, -, hhome, -, -, -, -, -, -, -, -, hkey, hmuted, -, hseeded, hlabel, hreport, -⟩ :=
    foldUpdatesRecord p e r
  exact ⟨hkey, hhome, hmuted, hseeded, hlabel, hreport⟩

@[simp] theorem foldEvent_key (p : Params) (e : LocatedEvent) (r : SourceRecord) : (r.foldEvent p e).key = r.key :=
  (foldEvent_kept p e r).1

@[simp] theorem foldEvent_home (p : Params) (e : LocatedEvent) (r : SourceRecord) : (r.foldEvent p e).home = r.home :=
  (foldEvent_kept p e r).2.1

@[simp] theorem foldEvent_muted (p : Params) (e : LocatedEvent) (r : SourceRecord) :
    (r.foldEvent p e).muted = r.muted :=
  (foldEvent_kept p e r).2.2.1

theorem foldEvent_grade (p : Params) (e : LocatedEvent) (r : SourceRecord) :
    (r.foldEvent p e).grade = if (r.foldEvent p e).tracked then min 3 (r.foldEvent p e).met.count else 0 := rfl

/-- A fold takes neither FELICITY nor a criterion of another step, nor the state TRACKED (R111 to R117). -/
theorem foldEvent_joins (p : Params) (e : LocatedEvent) (r : SourceRecord) :
    let r' := r.foldEvent p e
    (r.tracked = true → r'.tracked = true) ∧ (r.met.felicity = true → r'.met.felicity = true) ∧
      (r.met.hold = true → r'.met.hold = true) ∧ (r.met.activity = true → r'.met.activity = true) ∧
      (r.met.intensity = true → r'.met.intensity = true) := by
  obtain ⟨-, -, -, -, -, -, -, -, -, -, -, -, -, hint, hact, htracked, -, -, -, -, -, -, -, hsame, hnew, hout, hin⟩ :=
    foldUpdatesRecord p e r
  refine ⟨fun h => htracked.mpr (.inl h), fun h => ?_, fun h => ?_, fun h => hact.trans h, fun h => hint.mpr (.inl h)⟩
  · cases hq : e.context.pressure with
    | none => exact (hsame (.inl hq)).2.2.2.trans h
    | some q =>
      by_cases hc : r.onsetCycle = e.context.cycle
      · exact (hsame (.inr hc)).2.2.2.trans h
      · obtain ⟨-, -, hzero, hpos⟩ := hnew q hq hc
        rcases Nat.eq_zero_or_pos e.context.priorPeak with h0 | h0
        · exact (hzero h0).2.trans h
        · exact (hpos h0).2.mpr (.inl h)
  · by_cases hp : e.context.phase = .holding
    · exact (hin hp).2.2.2.mpr (.inl h)
    · exact (hout hp).2.2.2.trans h

/-- A visit takes no criterion and leaves the state (R133, R134). -/
theorem visit_joins (p : Params) (r : SourceRecord) :
    (r.met.activity = true → (r.visit p).met.activity = true) ∧
      (r.visit p).met = { r.met with activity := (r.visit p).met.activity } := by
  obtain ⟨-, -, -, hact, hmet, -⟩ := visitDecays p r
  exact ⟨fun h => hact.mpr (.inl h), hmet⟩

end SourceRecord

/-- Settles O27: the grade follows the met-set, from which nothing is taken. -/
theorem gradeNeverFalls : Obligations.GradeNeverFalls := by
  intro p e r hr
  dsimp only
  obtain ⟨htracked, hf, hh, ha, hi⟩ := r.foldEvent_joins p e
  obtain ⟨hact, hmet⟩ := r.visit_joins p
  have hvf : r.met.felicity = true → (r.visit p).met.felicity = true := id
  have hvh : r.met.hold = true → (r.visit p).met.hold = true := id
  have hvi : r.met.intensity = true → (r.visit p).met.intensity = true := id
  exact ⟨⟨grade_mono hr (r.foldEvent_grade p e) htracked (MetSet.count_mono hf hh ha hi), hf, hh, ha, hi⟩,
    ⟨grade_mono hr rfl id (MetSet.count_mono hvf hvh hact hvi), hvf, hvh, hact, hvi⟩⟩

/-! ### The law of a record -/

namespace RecordLaw
variable {r : SourceRecord}

/-- The grade of a record does not fall in a fold or a visit. -/
theorem grade_le_foldEvent (h : RecordLaw r) (p : Params) (e : LocatedEvent) : r.grade ≤ (r.foldEvent p e).grade :=
  (gradeNeverFalls p e r h.graded).1.1

theorem grade_le_visit (h : RecordLaw r) (p : Params) : r.grade ≤ (r.visit p).grade :=
  grade_mono h.graded rfl id (MetSet.count_mono (b := (r.visit p).met) id id (r.visit_joins p).1 id)

/-- A fold adds a channel that is new, and to fewer than 4 (R84). -/
theorem foldEvent_channels (h : r.channels.Nodup ∧ r.channels.length ≤ 4) (p : Params) (e : LocatedEvent) :
    (r.foldEvent p e).channels.Nodup ∧ (r.foldEvent p e).channels.length ≤ 4 := by
  obtain ⟨hnodup, hlen⟩ := h
  obtain ⟨-, -, -, -, -, -, -, -, hhome, hothers, -⟩ := foldUpdatesRecord p e r
  have hc : (r.foldEvent p e).channels = r.home :: (if e.channel = r.home ∨ e.channel ∈ r.others ∨
      3 ≤ r.others.length then r.others else r.others ++ [e.channel]) := by
    rw [SourceRecord.channels, hhome, hothers]
  rw [hc]
  split
  · exact ⟨hnodup, hlen⟩
  · next hn =>
    obtain ⟨hhome', hmem, hroom⟩ : e.channel ≠ r.home ∧ e.channel ∉ r.others ∧ ¬3 ≤ r.others.length := by
      simpa [not_or] using hn
    refine ⟨?_, ?_⟩
    · rw [← List.cons_append, List.nodup_append]
      refine ⟨hnodup, List.pairwise_singleton _ _, fun a ha b hb => ?_⟩
      obtain rfl := List.mem_singleton.mp hb
      rintro rfl
      exact (List.mem_cons.mp ha).elim hhome' hmem
    · simp only [List.length_cons, List.length_append, List.length_nil]
      omega

theorem foldEvent (h : RecordLaw r) (p : Params) (e : LocatedEvent) : RecordLaw (r.foldEvent p e) := by
  obtain ⟨-, hhome, -, hseeded, hlabel, hreport⟩ := r.foldEvent_kept p e
  refine ⟨r.foldEvent_grade p e, fun hr => ?_, ?_, by rw [hlabel, hseeded]; exact h.labelled,
    foldEvent_channels h.channels p e⟩
  · exact Nat.lt_of_lt_of_le (h.reported (hreport ▸ hr)) (h.grade_le_foldEvent p e)
  · obtain ⟨-, -, -, -, -, -, -, -, -, -, -, -, -, -, -, -, -, -, -, -, -, -, -, hsame, hnew, -⟩ :=
      foldUpdatesRecord p e r
    cases hq : e.context.pressure with
    | none => rw [(hsame (.inl hq)).2.2.1]; exact h.ratio
    | some q =>
      by_cases hc : r.onsetCycle = e.context.cycle
      · rw [(hsame (.inr hc)).2.2.1]; exact h.ratio
      · obtain ⟨-, -, hzero, hpos⟩ := hnew q hq hc
        rcases Nat.eq_zero_or_pos e.context.priorPeak with h0 | h0
        · rw [(hzero h0).1]; exact h.ratio
        · rw [(hpos h0).1]; exact Nat.min_le_left _ _

theorem visit (h : RecordLaw r) (p : Params) : RecordLaw (r.visit p) :=
  ⟨rfl, fun hr => Nat.lt_of_lt_of_le (h.reported hr) (h.grade_le_visit p), h.ratio, h.labelled, h.channels⟩

/-- A record keeps its law as an operation puts it back, its report flag set at a raise (R91, R119). -/
theorem raised (h : RecordLaw r) (found : Nat) : RecordLaw (raisedRecord r found) := by
  refine ⟨h.graded, fun hr => ?_, h.ratio, h.labelled, h.channels⟩
  have hr : (r.report || (decide (found < r.grade) && !r.muted)) = true := hr
  rcases Bool.or_eq_true_iff.mp hr with hr | hr
  · exact h.reported hr
  · exact Nat.lt_of_le_of_lt (Nat.zero_le _) (of_decide_eq_true (Bool.and_eq_true_iff.mp hr).1)

theorem ofFold (k : CellKey) (home : Channel) : RecordLaw (SourceRecord.ofFold k home) :=
  ⟨rfl, nofun, Nat.zero_le _, rfl, List.pairwise_singleton _ _, Nat.le_add_left 1 3⟩

theorem ofSeed (k : CellKey) (label : Nat) (home : Channel) : RecordLaw (SourceRecord.ofSeed k label home) :=
  ⟨rfl, nofun, Nat.zero_le _, rfl, List.pairwise_singleton _ _, Nat.le_add_left 1 3⟩

theorem clearStats (h : RecordLaw r) : RecordLaw r.clearStats := by
  refine ⟨?_, nofun, Nat.zero_le _, h.labelled, h.channels⟩
  show 0 = if r.tracked then 0 else 0
  split <;> rfl

theorem startRun (h : RecordLaw r) : RecordLaw r.startRun := ⟨h.graded, h.reported, h.ratio, h.labelled, h.channels⟩

theorem marked (h : RecordLaw r) (muted pinned unmutes : Bool) :
    RecordLaw { r with
      muted := muted, pinned := pinned, report := r.report || (unmutes && decide (0 < r.grade)) } := by
  refine ⟨h.graded, fun hr => ?_, h.ratio, h.labelled, h.channels⟩
  rcases Bool.or_eq_true_iff.mp hr with hr | hr
  · exact h.reported hr
  · exact of_decide_eq_true (Bool.and_eq_true_iff.mp hr).2

theorem unreported (h : RecordLaw r) : RecordLaw { r with report := false } :=
  ⟨h.graded, nofun, h.ratio, h.labelled, h.channels⟩

end RecordLaw

end Sys2Proof.Machine
end

section
/-! The statement about the table law and the zone law (R82, R118, R169). -/

namespace Sys2Proof.Machine

/-! ### The slots of a table -/

/-- In rising order a slot lists a record exactly where it holds it (R82). -/
theorem SourceTable.mem_iff_at? {t : SourceTable} (h : SlotsRise t.slots) {n : Nat} {r : SourceRecord} :
    (n, r) ∈ t.slots ↔ t.at? n = some r := by
  refine ⟨fun hm => ?_, SourceTable.mem_of_at?⟩
  unfold SourceTable.at?
  generalize t.slots = l at h hm
  induction l with
  | nil => cases hm
  | cons a l ih =>
    obtain ⟨hlt, hrest⟩ := List.pairwise_cons.mp (show ((a :: l).map (·.1)).Pairwise (· < ·) from h)
    rcases List.mem_cons.mp hm with rfl | hm
    · simp
    · have hne : a.1 ≠ n := Nat.ne_of_lt (hlt n (List.mem_map_of_mem (f := (·.1)) hm))
      rw [List.find?_cons_of_neg (by simpa using hne)]
      exact ih hrest hm

theorem SourceTable.mem_put {t : SourceTable} (h : SlotsRise t.slots) {slot : Nat} {r : SourceRecord}
    {e : Nat × SourceRecord} (he : e ∈ (t.put slot r).slots) : e = (slot, r) ∨ (e.1 ≠ slot ∧ e ∈ t.slots) := by
  obtain ⟨n, q⟩ := e
  have hat := (SourceTable.mem_iff_at? (t := t.put slot r) h.putSlot).mp he
  rw [SourceTable.at?_put h] at hat
  split at hat
  · next hn => cases hat; exact .inl (by rw [hn])
  · next hn => exact .inr ⟨hn, SourceTable.mem_of_at? hat⟩

theorem SourceTable.mem_remove {t : SourceTable} {slot : Nat} {e : Nat × SourceRecord} :
    e ∈ (t.remove slot).slots ↔ e.1 ≠ slot ∧ e ∈ t.slots := by
  simp [SourceTable.remove, and_comm]

/-- The free slot that a creation takes lies in the table and holds nothing (R83). -/
theorem SourceTable.freeSlot_some {t : SourceTable} (h : SlotsRise t.slots) {slot : Nat}
    (hf : t.freeSlot = some slot) : slot < 1024 ∧ ∀ e ∈ t.slots, e.1 ≠ slot := by
  unfold SourceTable.freeSlot at hf
  dsimp only at hf
  split at hf
  · next hlt =>
    cases hf
    exact ⟨hlt, (firstFree_spec t.slots 0 h fun _ _ => Nat.zero_le _).1⟩
  · cases hf

/-! ### The law of the table -/

theorem eq_of_map_nodup {α β : Type} {f : α → β} {l : List α} (h : (l.map f).Nodup) {a b : α} (ha : a ∈ l) (hb : b ∈ l)
    (hf : f a = f b) : a = b := by
  induction l with
  | nil => cases ha
  | cons c l ih =>
    obtain ⟨hc, hl⟩ := List.nodup_cons.mp (List.map_cons ▸ h : (f c :: l.map f).Nodup)
    rcases List.mem_cons.mp ha with rfl | hma <;> rcases List.mem_cons.mp hb with rfl | hmb
    · rfl
    · exact absurd (hf ▸ List.mem_map_of_mem hmb) hc
    · exact absurd (hf ▸ List.mem_map_of_mem hma) hc
    · exact ih hl hma hmb

theorem map_nodup_of_inj {α β : Type} {f : α → β} {l : List α} (h : l.Nodup)
    (hf : ∀ a ∈ l, ∀ b ∈ l, f a = f b → a = b) : (l.map f).Nodup :=
  List.pairwise_map.mpr (List.Pairwise.imp_of_mem (fun ha hb hne heq => hne (hf _ ha _ hb heq)) h)

namespace TableLaw
variable {t : SourceTable}

/-- The law rests on the slots alone. -/
theorem of_slots {u : SourceTable} (h : TableLaw t) (hs : u.slots = t.slots) : TableLaw u :=
  ⟨hs ▸ h.rising, hs ▸ h.bounded, hs ▸ h.distinct, hs ▸ h.records⟩

/-- Two entries with one key are one entry (R82). -/
theorem eq_of_key (h : TableLaw t) {a b : Nat × SourceRecord} (ha : a ∈ t.slots) (hb : b ∈ t.slots)
    (hk : a.2.key = b.2.key) : a = b :=
  eq_of_map_nodup h.distinct ha hb hk

/-- A record put in a slot, with a key that no other slot holds. -/
theorem put (h : TableLaw t) {slot : Nat} {r : SourceRecord} (hslot : slot < 1024) (hr : RecordLaw r)
    (hkey : ∀ e ∈ t.slots, e.1 ≠ slot → e.2.key ≠ r.key) : TableLaw (t.put slot r) := by
  have hrise : SlotsRise (t.put slot r).slots := SlotsRise.putSlot h.rising
  refine ⟨hrise, fun e he => ?_, ?_, fun e he => ?_⟩
  · rcases SourceTable.mem_put h.rising he with rfl | ⟨-, hm⟩
    · exact hslot
    · exact h.bounded e hm
  · have hnodup : (t.put slot r).slots.Nodup := (List.pairwise_map.mp hrise).imp fun hlt heq => Nat.ne_of_lt hlt (congrArg _ heq)
    refine map_nodup_of_inj hnodup fun a ha b hb hk => ?_
    rcases SourceTable.mem_put h.rising ha with rfl | ⟨hna, hma⟩ <;>
      rcases SourceTable.mem_put h.rising hb with rfl | ⟨hnb, hmb⟩
    · rfl
    · exact absurd hk.symm (hkey b hmb hnb)
    · exact absurd hk (hkey a hma hna)
    · exact h.eq_of_key hma hmb hk
  · rcases SourceTable.mem_put h.rising he with rfl | ⟨-, hm⟩
    · exact hr
    · exact h.records e hm

/-- A record put back in its slot under its key. -/
theorem replace (h : TableLaw t) {slot : Nat} {q r : SourceRecord} (hq : (slot, q) ∈ t.slots) (hr : RecordLaw r)
    (hkey : r.key = q.key) : TableLaw (t.put slot r) := by
  refine h.put (h.bounded _ hq) hr fun e he hn hk => hn ?_
  rw [h.eq_of_key he hq (hk.trans hkey)]

theorem remove (h : TableLaw t) (slot : Nat) : TableLaw (t.remove slot) :=
  ⟨SlotsRise.filter _ h.rising, fun e he => h.bounded e (SourceTable.mem_remove.mp he).2,
    h.distinct.sublist (List.filter_sublist.map _), fun e he => h.records e (SourceTable.mem_remove.mp he).2⟩

theorem clear (t : SourceTable) : TableLaw t.clear :=
  ⟨.nil, fun _ he => absurd he List.not_mem_nil, .nil, fun _ he => absurd he List.not_mem_nil⟩

/-- Every record changed in place, its key and its law kept. -/
theorem mapRecords (h : TableLaw t) {f : SourceRecord → SourceRecord} (hkey : ∀ r, (f r).key = r.key)
    (hr : ∀ r, RecordLaw r → RecordLaw (f r)) : TableLaw (t.mapRecords f) := by
  have hslots : (t.mapRecords f).slots.map (·.1) = t.slots.map (·.1) := by simp [SourceTable.mapRecords]
  have hkeys : (t.mapRecords f).slots.map (·.2.key) = t.slots.map (·.2.key) := by
    simp [SourceTable.mapRecords, hkey]
  refine ⟨by rw [hslots]; exact h.rising, fun e he => ?_, by rw [hkeys]; exact h.distinct, fun e he => ?_⟩ <;>
    obtain ⟨q, hq, rfl⟩ := List.mem_map.mp he
  · exact h.bounded q hq
  · exact hr q.2 (h.records q hq)

end TableLaw

/-! ### The table and the zones -/

/-- The table law, and zones that cover it (R169): the live grades every unmuted record, the building grades those in
slots below one. -/
structure Zoned (n : Nat) (t : SourceTable) (zones : Vector Zone 64) : Prop where
  table : TableLaw t
  cover : ∀ e ∈ t.slots, e.2.muted = false → e.2.grade ≤ zones[e.2.home].live
  built : ∀ e ∈ t.slots, e.1 < n → e.2.muted = false → e.2.grade ≤ zones[e.2.home].building

/-- The zone law is about the slots that the pass in progress has visited (R136). -/
theorem zoneLaw_iff (s : State) : ZoneLaw s ↔ Zoned s.sweep.sliceStart s.table s.zones := by
  refine ⟨fun h => ⟨h.table, h.cover, fun e he hn hm => ?_⟩, fun h => ⟨h.table, h.cover, fun hp e he hn hm => ?_⟩⟩
  · unfold Sweep.sliceStart at hn
    split at hn
    · next hp => exact h.built hp e he hn hm
    · exact absurd hn (Nat.not_lt_zero _)
  · exact h.built e he (by rw [Sweep.sliceStart, if_pos hp]; exact hn) hm

namespace Zoned
variable {n : Nat} {t : SourceTable} {zones : Vector Zone 64}

theorem of_slots {u : SourceTable} (h : Zoned n t zones) (hs : u.slots = t.slots) : Zoned n u zones :=
  ⟨h.table.of_slots hs, hs ▸ h.cover, hs ▸ h.built⟩

theorem clear (t : SourceTable) : Zoned n t.clear zones :=
  ⟨.clear t, fun _ he => absurd he List.not_mem_nil, fun _ he => absurd he List.not_mem_nil⟩

/-- Where no slot counts as visited, the building grades are free (R139). -/
theorem unbuilt {y : Vector Zone 64} (h : Zoned n t zones) (hlive : ∀ c : Channel, y[c].live = zones[c].live) :
    Zoned 0 t y :=
  ⟨h.table, fun e he hm => by rw [hlive]; exact h.cover e he hm, fun _ _ h0 => absurd h0 (Nat.not_lt_zero _)⟩

/-- Zones that rise still cover the table (R170). -/
theorem rise {y : Vector Zone 64} (h : Zoned n t zones) (hr : ZonesRise zones y) : Zoned n t y :=
  ⟨h.table, fun e he hm => Nat.le_trans (h.cover e he hm) (hr e.2.home).1,
    fun e he hn hm => Nat.le_trans (h.built e he hn hm) (hr e.2.home).2.1⟩

theorem remove (h : Zoned n t zones) (slot : Nat) : Zoned n (t.remove slot) zones :=
  ⟨h.table.remove slot, fun e he => h.cover e (SourceTable.mem_remove.mp he).2,
    fun e he => h.built e (SourceTable.mem_remove.mp he).2⟩

/-- A record put in a slot, covered by its zone. -/
theorem put (h : Zoned n t zones) {slot : Nat} {r : SourceRecord} (ht : TableLaw (t.put slot r))
    (hlive : r.muted = false → r.grade ≤ zones[r.home].live)
    (hbuilt : slot < n → r.muted = false → r.grade ≤ zones[r.home].building) : Zoned n (t.put slot r) zones := by
  refine ⟨ht, fun e he => ?_, fun e he => ?_⟩ <;>
    rcases SourceTable.mem_put h.table.rising he with rfl | ⟨-, hm⟩
  · exact hlive
  · exact h.cover e hm
  · exact hbuilt
  · exact h.built e hm

/-- Every record changed in place, with key, home, grade and MUTED kept. -/
theorem mapRecords (h : Zoned n t zones) {f : SourceRecord → SourceRecord}
    (hf : ∀ r, (f r).key = r.key ∧ (f r).home = r.home ∧ (f r).grade = r.grade ∧ (f r).muted = r.muted)
    (hr : ∀ r, RecordLaw r → RecordLaw (f r)) : Zoned n (t.mapRecords f) zones := by
  refine ⟨h.table.mapRecords (fun r => (hf r).1) hr, fun e he hm => ?_, fun e he hn hm => ?_⟩ <;>
    obtain ⟨q, hq, rfl⟩ := List.mem_map.mp he <;>
    obtain ⟨-, hhome, hgrade, hmuted⟩ := hf q.2
  · have := h.cover q hq (hmuted ▸ hm)
    simp only [hhome, hgrade]
    exact this
  · have := h.built q hq hn (hmuted ▸ hm)
    simp only [hhome, hgrade]
    exact this

/-- After a raise the zone covers the record that was raised, where it covered the grade that was found (R119). -/
theorem raised_covers (r : SourceRecord) {found : Nat} (hm : r.muted = false) :
    (found ≤ zones[r.home].live → r.grade ≤ (raisedZones zones r found)[r.home].live) ∧
      (found ≤ zones[r.home].building → r.grade ≤ (raisedZones zones r found)[r.home].building) := by
  unfold raisedZones
  split
  · rw [zones_set_get, if_pos rfl]
    exact ⟨fun _ => Nat.le_max_right _ _, fun _ => Nat.le_max_right _ _⟩
  · next hn =>
    have : r.grade ≤ found := Nat.le_of_not_lt fun hlt => hn ⟨hlt, hm⟩
    exact ⟨Nat.le_trans this, Nat.le_trans this⟩

/-- A record put back at the end of an operation that found a grade which the zones covered (R119). -/
theorem settle (h : Zoned n t zones) {slot : Nat} {r : SourceRecord} {found : Nat}
    (ht : TableLaw (t.put slot (raisedRecord r found)))
    (hlive : r.muted = false → found ≤ zones[r.home].live)
    (hbuilt : slot < n → r.muted = false → found ≤ zones[r.home].building) :
    Zoned n (t.put slot (raisedRecord r found)) (raisedZones zones r found) :=
  (h.rise (zonesRise_raisedZones zones r found)).put ht (fun hm => (raised_covers r hm).1 (hlive hm))
    fun hn hm => (raised_covers r hm).2 (hbuilt hn hm)

/-- A live record put back under its key, its home and MUTED kept. -/
theorem resettle (h : Zoned n t zones) {slot : Nat} {q r : SourceRecord} (hq : (slot, q) ∈ t.slots)
    (hr : RecordLaw r) (hkey : r.key = q.key) (hhome : r.home = q.home) (hmuted : r.muted = q.muted) :
    Zoned n (t.put slot (raisedRecord r q.grade)) (raisedZones zones r q.grade) := by
  refine h.settle (h.table.replace hq (hr.raised _) hkey) (fun hm => ?_) fun hn hm => ?_
  · simpa only [hhome] using h.cover _ hq (hmuted ▸ hm)
  · simpa only [hhome] using h.built _ hq hn (hmuted ▸ hm)

/-- Room made for a new record leaves the law, a slot of the table, and no record in it. -/
theorem makeRoom (h : Zoned n t zones) {room : Room} (hr : t.makeRoom = some room) :
    Zoned n room.table zones ∧ room.slot < 1024 ∧ ∀ e ∈ room.table.slots, e.1 ≠ room.slot ∧ e ∈ t.slots := by
  rcases t.makeRoom_cases with ⟨slot, hf, e⟩ | ⟨v, -, hv, e⟩ | ⟨-, -, e⟩ <;> rw [e] at hr <;> cases hr
  · obtain ⟨hlt, hfree⟩ := SourceTable.freeSlot_some h.table.rising hf
    exact ⟨h, hlt, fun e he => ⟨hfree e he, he⟩⟩
  · exact ⟨h.remove v.1, h.table.bounded v (chooseVictim_some hv).1, fun e he => SourceTable.mem_remove.mp he⟩

/-- A new record in the room made for it. -/
theorem create (h : Zoned n t zones) {room : Room} (hroom : t.makeRoom = some room) {r : SourceRecord}
    (hr : RecordLaw r) (hnew : t.find? r.key = none) :
    Zoned n (room.table.put room.slot (raisedRecord r 0)) (raisedZones zones r 0) := by
  obtain ⟨hz, hlt, hslots⟩ := h.makeRoom hroom
  refine hz.settle (hz.table.put hlt (hr.raised 0) fun e he _ => ?_) (fun _ => Nat.zero_le _) fun _ _ => Nat.zero_le _
  exact SourceTable.find?_none hnew e (hslots e he).2

/-! ### Folds -/

theorem chargeZone {s : State} (h : Zoned n s.table s.zones) (c : Channel) :
    Zoned n (s.chargeZone c).table (s.chargeZone c).zones := by
  refine ⟨h.table, fun e he hm => ?_, fun e he hn hm => ?_⟩
  · refine Nat.le_trans (h.cover e he hm) (Nat.le_of_eq ?_)
    simp only [State.chargeZone, State.updZone, zones_set_get]
    split
    · next hc => rw [hc]
    · rfl
  · refine Nat.le_trans (h.built e he hn hm) (Nat.le_of_eq ?_)
    simp only [State.chargeZone, State.updZone, zones_set_get]
    split
    · next hc => rw [hc]
    · rfl

theorem foldEvent {s : State} (h : Zoned n s.table s.zones) (e : LocatedEvent) :
    Zoned n (s.foldEvent e).table (s.foldEvent e).zones := by
  unfold State.foldEvent
  split
  · exact h.chargeZone e.channel
  · rcases s.foldRecordPath_cases e with ⟨slot, r, hf, he⟩ | ⟨room, hf, hroom, he⟩ | ⟨-, -, he⟩ <;> rw [he]
    · obtain ⟨hmem, -⟩ := SourceTable.find?_some hf
      rw [State.settleRecord_eq]
      exact h.resettle hmem ((h.table.records _ hmem).foldEvent _ _) (by simp) (by simp) (by simp)
    · rw [State.settleRecord_eq]
      exact h.create hroom ((RecordLaw.ofFold _ _).foldEvent _ _) (by simpa [SourceRecord.ofFold] using hf)
    · exact h

/-! ### Slices -/

/-- The visit of the next slot: its record is retired, or raises the building grade of its zone (R135, R136). -/
theorem visitSlot {s : State} (h : Zoned n s.table s.zones) :
    Zoned (n + 1) (s.visitSlot n).table (s.visitSlot n).zones := by
  rcases s.visitSlot_cases n with ⟨hat, e⟩ | ⟨r, hat, ⟨-, e⟩ | ⟨-, e⟩⟩ <;> rw [e]
  · refine ⟨h.table, h.cover, fun q hq hn hm => ?_⟩
    have hne : q.1 ≠ n := fun hqn => by
      rw [(SourceTable.mem_iff_at? h.table.rising).mp (show (n, q.2) ∈ s.table.slots from hqn ▸ hq)] at hat
      cases hat
    exact h.built q hq (by omega) hm
  · have hrem := h.remove n
    refine ⟨hrem.table, hrem.cover, fun q hq hn hm => hrem.built q hq ?_ hm⟩
    have := (SourceTable.mem_remove.mp hq).1
    omega
  · have hmem := SourceTable.mem_of_at? hat
    have hput := h.resettle (r := r.visit s.params) hmem ((h.table.records _ hmem).visit s.params) rfl rfl rfl
    rw [State.settleRecord_eq, State.buildZone_eq]
    have hzone (c : Channel) := visitedZones_get s.zones (r.visit s.params) r.grade c
    have hbuilt : ZonesRise (raisedZones s.zones (r.visit s.params) r.grade)
        (builtZones (raisedZones s.zones (r.visit s.params) r.grade) (r.visit s.params)) := by
      intro c
      rw [builtZones_get]
      split
      · exact ⟨Nat.le_refl _, Nat.le_max_left _ _, rfl⟩
      · exact ⟨Nat.le_refl _, Nat.le_refl _, rfl⟩
    have hrise := hput.rise hbuilt
    refine ⟨hrise.table, hrise.cover, fun q hq hn hm => ?_⟩
    rcases SourceTable.mem_put h.table.rising hq with rfl | ⟨hne, -⟩
    · have hm : (r.visit s.params).muted = false := hm
      show (r.visit s.params).grade ≤ (builtZones _ _)[(r.visit s.params).home].building
      rw [hzone, if_pos ⟨hm, rfl⟩]
      exact Nat.le_max_right _ _
    · exact hrise.built q hq (by omega) hm

theorem visitSlots (m : Nat) : ∀ {s : State} {n : Nat}, Zoned n s.table s.zones →
    Zoned (n + m) (s.visitSlots n m).table (s.visitSlots n m).zones := by
  induction m with
  | zero => exact fun h => h
  | succ m ih =>
    intro s n h
    have := ih h.visitSlot
    rwa [Nat.add_right_comm] at this

/-- At the end of a pass every slot has been visited: the building grades become the live ones (R137, R171). -/
theorem passEnds (h : Zoned n t zones) (hn : 1024 ≤ n) :
    Zoned 0 t (zones.map fun z => { live := z.building, building := 0, unlocated := 0 }) := by
  refine ⟨h.table, fun e he hm => ?_, fun _ _ h0 => absurd h0 (Nat.not_lt_zero _)⟩
  have := h.built e he (Nat.lt_of_lt_of_le (h.table.bounded e he) hn) hm
  simpa using this

/-! ### The work of requests -/

/-- Work on the live record of a cell, or none. -/
theorem onRecord {s : State} (h : Zoned n s.table s.zones) (k : CellKey) {work : Nat → SourceRecord → WorkResult}
    (hw : ∀ slot r, (slot, r) ∈ s.table.slots → Zoned n (work slot r).state.table (work slot r).state.zones) :
    Zoned n (s.onRecord k work).state.table (s.onRecord k work).state.zones := by
  unfold State.onRecord
  split
  · next hf => exact hw _ _ (SourceTable.find?_some hf).1
  · exact h

theorem seed {s : State} (h : Zoned n s.table s.zones) (k : CellKey) (label : Nat) (home : Channel) :
    Zoned n (s.workSeed k label home).state.table (s.workSeed k label home).state.zones := by
  unfold State.workSeed
  split
  · exact h
  · next hf =>
    split
    · exact h
    · next room hroom =>
      obtain ⟨hz, hlt, hslots⟩ := h.makeRoom hroom
      have ht := hz.table.put hlt (RecordLaw.ofSeed k label home) fun e he _ =>
        SourceTable.find?_none hf e (hslots e he).2
      exact (hz.put ht (fun _ => Nat.zero_le _) fun _ _ => Nat.zero_le _).of_slots rfl

/-- A raise to the grade of a record covers it (R124, R170). -/
theorem raiseZone {s : State} (h : Zoned n s.table s.zones) (c : Channel) (g : Nat) :
    Zoned n s.table (s.raiseZone c g).zones ∧ g ≤ (s.raiseZone c g).zones[c].live ∧
      g ≤ (s.raiseZone c g).zones[c].building := by
  have hget (d : Channel) : (s.raiseZone c g).zones[d] = if c = d then
      { s.zones[c] with live := max s.zones[c].live g, building := max s.zones[c].building g }
      else s.zones[d] := zones_set_get _ _ _ _
  refine ⟨h.rise fun d => ?_, ?_, ?_⟩
  · rw [hget]
    split
    · next hc => subst hc; exact ⟨Nat.le_max_left _ _, Nat.le_max_left _ _, rfl⟩
    · exact ⟨Nat.le_refl _, Nat.le_refl _, rfl⟩
  · rw [hget, if_pos rfl]
    exact Nat.le_max_right _ _
  · rw [hget, if_pos rfl]
    exact Nat.le_max_right _ _

/-- MARK unmutes a record into a zone that is raised to its grade; else it stays muted, or stays covered (R124). -/
theorem mark {s : State} (h : Zoned n s.table s.zones) (k : CellKey) (muted pinned : MarkAction) :
    Zoned n (s.workMark k muted pinned).state.table (s.workMark k muted pinned).state.zones := by
  refine h.onRecord k fun slot r hm => ?_
  have hr := h.table.records _ hm
  dsimp only
  have ht := h.table.replace hm (hr.marked (muted.apply r.muted) (pinned.apply r.pinned)
    (r.muted && muted == .clear)) rfl
  split
  · obtain ⟨hz, hlive, hbuilt⟩ := h.raiseZone r.home r.grade
    exact hz.put ht (fun _ => hlive) fun _ _ => hbuilt
  · next hun =>
    have hold (hmuted : muted.apply r.muted = false) : r.muted = false := by
      cases hrm : r.muted
      · rfl
      · cases muted <;> simp [hrm, MarkAction.apply] at hun hmuted
    exact h.put ht (fun hmu => h.cover _ hm (hold hmu)) fun hn hmu => h.built _ hm hn (hold hmu)

/-- CHANGES clears report flags alone (R190). -/
theorem changes {s : State} (h : Zoned n s.table s.zones) :
    Zoned n s.workChanges.state.table s.workChanges.state.zones := by
  unfold State.workChanges
  dsimp only [State.updTable]
  refine h.mapRecords (fun r => ?_) fun r hr => ?_
  · split <;> exact ⟨rfl, rfl, rfl, rfl⟩
  · split
    · exact hr.unreported
    · exact hr

theorem performWork {s : State} (h : Zoned n s.table s.zones) (work : TableWork) :
    Zoned n (s.performWork work).state.table (s.performWork work).state.zones := by
  cases work with
  | lookup k => exact h.onRecord k fun _ _ _ => h
  | scan => exact h
  | changes => exact h.changes
  | seed k label home => exact h.seed k label home
  | mark k muted pinned => exact h.mark k muted pinned
  | clearStats k =>
    refine h.onRecord k fun slot r hm => ?_
    exact h.put (h.table.replace hm (h.table.records _ hm).clearStats rfl) (fun _ => Nat.zero_le _)
      fun _ _ => Nat.zero_le _
  | retire k => exact h.onRecord k fun slot _ _ => h.remove slot
  | geometry => exact .clear _
  | sensor => exact .clear _

end Zoned

/-! ### The law of every step -/

namespace ZoneLaw
variable {s t : State}

/-- The law in a state with the same slots, zones and pass. -/
theorem same (h : ZoneLaw s) (ht : t.table.slots = s.table.slots) (hz : t.zones = s.zones)
    (hp : t.sweep.pass = s.sweep.pass) (hc : t.sweep.cursor = s.sweep.cursor) : ZoneLaw t := by
  have hstart : t.sweep.sliceStart = s.sweep.sliceStart := by simp only [Sweep.sliceStart, hp, hc]
  rw [zoneLaw_iff] at h ⊢
  rw [hstart, hz]
  exact h.of_slots ht

theorem path (h : ZoneLaw s) (g : s.PathOnly t) : ZoneLaw t :=
  h.same (by rw [g.table_eq]) g.zones_eq g.pass_eq g.cursor_eq

/-- The law where the sweep is abandoned (R139). -/
theorem abandoned (h : ZoneLaw s) (ht : t.table = s.table) (hz : t.zones = s.zones.map fun z => { z with building := 0 })
    (hp : t.sweep.pass = false) : ZoneLaw t := by
  refine ⟨ht ▸ h.table, ?_, fun hpass => absurd (hp.symm.trans hpass) nofun⟩
  intro e he hm
  have := h.cover e (ht ▸ he) hm
  rw [hz]
  simpa using this

theorem sliceGrant (h : ZoneLaw s) : ZoneLaw (s.grant .sweep) := by
  rw [zoneLaw_iff] at h
  have hslice : s.grant .sweep = (s.beginGrant .sweep false s.sweep.slicesToEnd).slice := rfl
  have hb : (s.beginGrant .sweep false s.sweep.slicesToEnd).table = s.table ∧
      (s.beginGrant .sweep false s.sweep.slicesToEnd).zones = s.zones ∧
      (s.beginGrant .sweep false s.sweep.slicesToEnd).sweep = s.sweep := ⟨rfl, rfl, rfl⟩
  rw [hslice]
  generalize s.beginGrant .sweep false s.sweep.slicesToEnd = u at hb
  obtain ⟨ht, hz, hw⟩ := hb
  rw [← ht, ← hz, ← hw] at h
  have hstart : (u.updSweep Sweep.beginPass).sweep.cursor = u.sweep.sliceStart := by
    simp only [State.updSweep, Sweep.beginPass, Sweep.sliceStart]
    split <;> rfl
  have hsweep : (u.updSweep Sweep.beginPass).sweep.pass = true := by
    simp only [State.updSweep, Sweep.beginPass]
    split
    · assumption
    · rfl
  have hends : (u.updSweep Sweep.beginPass).sweep.slicesToEnd =
      decide (1024 ≤ u.sweep.sliceStart + Config.sliceSlots) := by
    rw [Sweep.slicesToEnd_eq, Sweep.sliceStart, if_pos hsweep, hstart]
  unfold State.slice
  dsimp only
  rw [hstart, hends]
  generalize Config.sliceSlots = m
  have hvisited := Zoned.visitSlots m (s := u.updSweep Sweep.beginPass) h
  obtain ⟨table, zones, operation, hv, -⟩ :=
    State.TableOnly.visitSlots (u.updSweep Sweep.beginPass) u.sweep.sliceStart m
  rw [hv] at hvisited ⊢
  split
  · next hend => exact (zoneLaw_iff _).mpr (hvisited.passEnds (of_decide_eq_true hend))
  · refine (zoneLaw_iff _).mpr ?_
    have hnext : (if (u.updSweep Sweep.beginPass).sweep.pass then
        (u.updSweep Sweep.beginPass).sweep.cursor + m else 0) = u.sweep.sliceStart + m := by
      rw [if_pos hsweep, hstart]
    rw [← hnext] at hvisited
    exact hvisited

theorem grant {r : Requester} (h : ZoneLaw s) (hg : s.grantChoice = some r) : ZoneLaw (s.grant r) := by
  cases r with
  | port =>
    obtain ⟨hold, work, hq⟩ := State.portWork_of_choice hg
    rw [State.grant_port hq]
    exact (zoneLaw_iff _).mpr (((zoneLaw_iff s).mp h).performWork work)
  | fold =>
    obtain ⟨i, e, hi, he⟩ := State.foldIndex_of_requests
      (State.foldRequests_of_background (State.grantChoice_fold hg).2.2)
    have hfold : s.grant .fold = ((s.beginGrant .fold true false).updFormer fun f =>
        { f with queue := f.queue.eraseIdx i }).foldEvent e := by
      simp only [State.grant, State.grantFold, hi, he]
    rw [hfold]
    refine (zoneLaw_iff _).mpr ?_
    have hfolded := Zoned.foldEvent (s := (s.beginGrant .fold true false).updFormer fun f =>
      { f with queue := f.queue.eraseIdx i }) ((zoneLaw_iff s).mp h) e
    obtain ⟨table, zones, operation, hv, -⟩ := State.TableOnly.foldEvent
      ((s.beginGrant .fold true false).updFormer fun f => { f with queue := f.queue.eraseIdx i }) e
    rw [hv] at hfolded ⊢
    exact hfolded
  | sweep => exact h.sliceGrant

theorem started (h : ZoneLaw s) : ZoneLaw s.startRun := by
  rw [s.startRun_eq]
  exact (zoneLaw_iff _).mpr (((zoneLaw_iff s).mp h).mapRecords (fun r => ⟨rfl, rfl, rfl, rfl⟩) fun r hr => hr.startRun)

theorem effect (h : ZoneLaw s) (he : s.Effect t) : ZoneLaw t := by
  cases he
  case started => exact h.started
  case stopped => exact h.abandoned rfl rfl rfl
  case freezes =>
    have hf : ZoneLaw { s.stopSweepTimer with run := { state := .freezing, flavour := some .requested } } :=
      h.same rfl rfl rfl rfl
    exact hf.path (.testRequestedDrain _)
  case engineReset =>
    rw [State.resetEngine_eq]
    exact h.abandoned rfl rfl rfl
  case restarts =>
    have hr : ZoneLaw s.startRestart := h.same rfl rfl rfl rfl
    exact hr.path (.testRuptureDrain _)
  case sampleTimeout v =>
    have hv : ZoneLaw (s.storeParam .sampleTimeout v) := h.same rfl rfl rfl rfl
    exact hv.path (.testSampleTimeout _)
  case lockLimit v =>
    rcases State.testLockExpiry_cases (s.storeParam .lockLimit v) with ⟨-, e⟩ | ⟨-, e⟩ | ⟨-, e⟩ <;> rw [e] <;>
      exact h.same rfl rfl rfl rfl
  case annEnable v =>
    unfold State.annEnableWritten
    split
    · exact h.same rfl rfl rfl rfl
    · split <;> exact h.same rfl rfl rfl rfl
  all_goals exact h.same rfl rfl rfl rfl

theorem respond (h : ZoneLaw s) (hold : Bool) (status : Status) (payload : Payload) :
    ZoneLaw (s.respond hold status payload) :=
  h.same (by simp) (by simp) (by simp) (by simp)

theorem outcome (h : ZoneLaw s) (ho : s.Outcome t) : ZoneLaw t := by
  cases ho with
  | answered he hold status payload => exact (h.effect he).respond hold status payload
  | waits => exact h.same rfl rfl rfl rfl
  | defers => exact h.same rfl rfl rfl rfl

theorem complete (h : ZoneLaw s) : ZoneLaw s.completeOperation := by
  have hidle : ZoneLaw (s.updArbiter fun a => { a with operation := none }) := h.same rfl rfl rfl rfl
  rcases s.completeOperation_cases with ⟨-, e⟩ | ⟨op, -, -, e⟩ | ⟨op, -, -, e⟩ <;> rw [e]
  · exact h
  · generalize (s.updArbiter fun a => { a with operation := none }) = u at hidle
    have hforced : ZoneLaw (if u.arbiter.breaking then u.forceRelease else u) := by
      split
      · exact hidle.same rfl rfl rfl rfl
      · exact hidle
    rcases u.completePort_cases with ⟨hold, status, payload, -, e⟩ | ⟨-, e⟩ <;> rw [e]
    · exact hforced.respond _ _ _
    · exact hforced
  · generalize (s.updArbiter fun a => { a with operation := none }) = u at hidle
    have hfinished : ZoneLaw (u.finished op) := hidle.same rfl rfl rfl rfl
    have hdone := (hfinished.path (.testRequestedDrain _)).path (.testRuptureDrain _)
    rcases u.completeBackground_cases op with ⟨e, -⟩ | ⟨hold, -, e⟩ | ⟨hold, -, e⟩ <;> rw [e]
    · exact hdone
    · exact (hdone.effect .stopped).respond _ _ _
    · exact (hdone.effect .engineReset).respond _ _ _

theorem reads (h : ZoneLaw s) (n : Nat) (overtaken : Bool) : ZoneLaw (s.readResponse n overtaken) := by
  unfold State.readResponse
  split
  · exact h
  · split
    · exact h.same rfl rfl rfl rfl
    · dsimp only
      split <;> exact h.same rfl rfl rfl rfl

end ZoneLaw

theorem zoneLaw_reset (l : List Instr) (a : Bool) : ZoneLaw { State.reset with pending := l, resetAsserted := a } :=
  (zoneLaw_iff _).mpr (Zoned.clear SourceTable.reset)

theorem stepLaw_zone : StepLaw ZoneLaw where
  reset := zoneLaw_reset
  queue s l h := h.same rfl rfl rfl rfl
  work {s t} hd h := by
    cases hd with
    | nothing => exact h
    | grant hr => exact h.grant hr
    | tick => exact h.same rfl rfl rfl rfl
    | hitCharacter l ch => exact h.path (.takeHitCharacter s l ch)
    | merge => exact h.path (.mergeServe s)
    | endRestart => exact h.path (.endRestart s)
    | endSettle => exact h.path (.endSettle s)
    | takeHit => exact h.path (.takeHit s)
    | expireEvent => exact h.path (.expireEvent s)
    | plinCharacter ch => exact h.path (.takePlinCharacter s ch)
    | sampleTimeout => exact h.path (.testSampleTimeout s)
    | sweepTimer => exact h.path (.expireSweepTimer s)
    | complete => exact h.complete
    | requestedDrain => exact h.path (.testRequestedDrain s)
    | ruptureDrain => exact h.path (.testRuptureDrain s)
    | lockExpiry =>
      rcases s.testLockExpiry_cases with ⟨-, e⟩ | ⟨-, e⟩ | ⟨-, e⟩ <;> rw [e] <;> exact h.same rfl rfl rfl rfl
    | frameStart => unfold State.startFrame; split <;> exact h.same rfl rfl rfl rfl
    | collides n => exact h.same rfl rfl rfl rfl
    | requests n hb ho =>
      have hf : ZoneLaw (s.clockFiller n) := h.same rfl rfl rfl rfl
      exact hf.outcome ho
    | reads n overtaken => exact h.reads n overtaken

/-- Settles O56: the table law and the zone law are kept by every step. -/
theorem stepKeepsZoneLaw : Obligations.StepKeepsZoneLaw :=
  fun _ _ h ht => stepLaw_zone.step_keeps h ht

/-- Settles O55: the laws that steps keep hold of the state after RESET, whatever commands wait. -/
theorem lawsAtReset : Obligations.LawsAtReset :=
  ⟨capacityLaw_reset _ _, zoneLaw_reset _ _, cutoffLaw_reset _ _, runLaw_reset _ _, portLaw_reset _ _,
    paramLaw_reset, sensorLaw_reset _ _⟩

end Sys2Proof.Machine
end

section
/-! The statements about folds and slices: where a fold goes, what a slice visits and how a pass ends (chapters 5 to 8). -/

namespace Sys2Proof.Machine

/-! ### Folds -/

/-- The entry that a fold takes, in the terms of the Fold Engine (R37). -/
theorem State.FoldTakes.foldIndex {s : State} {before after : List LocatedEvent} {e : LocatedEvent}
    (h : s.FoldTakes before e after) :
    s.foldIndex = some before.length ∧ s.former.queue[before.length]? = some e ∧
      s.former.queue.eraseIdx before.length = before ++ after := by
  obtain ⟨hq, hrun⟩ := h
  refine ⟨?_, by simp [hq], by simp [hq, List.eraseIdx_append_of_length_le]⟩
  unfold State.foldIndex
  rcases hrun with ⟨hs, rfl⟩ | ⟨hs, hheld, he⟩ <;> rw [hs]
  · simp [hq]
  · dsimp only
    rw [hq, List.findIdx?_eq_some_iff_getElem]
    refine ⟨by simp, by simp [he], fun j hj => ?_⟩
    rw [List.getElem_append_left hj]
    simpa using hheld _ (List.getElem_mem hj)

/-- The state in which a fold works: its entry out of the queue, its operation in progress (R37, R144). -/
def State.folding (s : State) (queue : List LocatedEvent) : State :=
  { s with
    former := { s.former with queue := queue }
    arbiter := s.backgroundGranted .fold (s.foldInProgress false false) }

/-- FOLD, where FOLD is chosen (R106). -/
theorem exec_fold {s : State} {before after : List LocatedEvent} {e : LocatedEvent} (hr : s.resetAsserted = false)
    (hg : s.grantChoice = some .fold) (h : s.FoldTakes before e after) :
    exec .fold s = .next ((s.folding (before ++ after)).foldEvent e) := by
  obtain ⟨hi, he, herase⟩ := h.foldIndex
  have hfold : s.grantFold = (s.folding (before ++ after)).foldEvent e := by
    unfold State.grantFold
    simp only [hi, he, State.beginGrant, State.updFormer, State.updArbiter, herase]
    rfl
  show whileReleased s _ = _
  rw [whileReleased_released _ hr, if_pos hg, hfold]

/-- Settles O24: the zone is charged, or the event is left unplaced. -/
theorem foldReachesNoRecord : Obligations.FoldReachesNoRecord := by
  intro before after e s hr hg ht hlaw
  dsimp only
  rw [exec_fold hr hg ht]
  refine ⟨fun hz h0 => ?_, fun hpath hkey hfull hcand => ?_⟩
  · rw [State.foldEvent, if_pos ⟨hz, h0⟩]
    rfl
  · rw [State.foldEvent, if_neg fun h => hpath.elim (absurd h.1) (absurd h.2)]
    have hroom : (s.folding (before ++ after)).table.makeRoom = none := by
      have hfree := SourceTable.freeSlot_of_full hlaw.rising hfull
      have hvictim := chooseVictim_eq_none hcand
      show s.table.makeRoom = none
      simp only [SourceTable.makeRoom, hfree, hvictim]
    have hfind : (s.folding (before ++ after)).table.find? e.cell = none := SourceTable.find?_eq_none hkey
    unfold State.foldRecordPath
    rw [hfind, hroom]
    rfl

/-- Settles O25: the three ways on the record path, each put back as R119 says. -/
theorem foldReachesRecord : Obligations.FoldReachesRecord := by
  intro before after e s hr hg ht hlaw hpath
  dsimp only
  rw [exec_fold hr hg ht, State.foldEvent, if_neg fun h => hpath.elim (absurd h.1) (absurd h.2)]
  have hnone (hkey : ∀ q ∈ s.table.slots, q.2.key ≠ e.cell) :
      (s.folding (before ++ after)).table.find? e.cell = none := SourceTable.find?_eq_none hkey
  refine ⟨fun slot r hmem hk => ?_, fun hkey => ⟨fun slot hfree => ?_, fun slot v hfull hvictim => ?_⟩⟩
  · have hfind : (s.folding (before ++ after)).table.find? e.cell = some (slot, r) :=
      hk ▸ SourceTable.find?_of_mem hlaw.distinct hmem
    unfold State.foldRecordPath
    rw [hfind]
    dsimp only
    rw [State.settleRecord_eq]
    rfl
  · have hroom : (s.folding (before ++ after)).table.makeRoom =
        some { table := s.table, slot := slot, evicts := false } := by
      have hslot := SourceTable.freeSlot_of_lowestFree hlaw.rising hfree
      show s.table.makeRoom = _
      simp only [SourceTable.makeRoom, hslot]
    unfold State.foldRecordPath
    rw [hnone hkey, hroom]
    dsimp only
    rw [State.settleRecord_eq]
    rfl
  · have hroom : (s.folding (before ++ after)).table.makeRoom =
        some { table := s.table.remove slot, slot := slot, evicts := true } := by
      have hslot := SourceTable.freeSlot_of_full hlaw.rising hfull
      have hv := SourceTable.chooseVictim_of_victim hvictim
      show s.table.makeRoom = _
      simp only [SourceTable.makeRoom, hslot, hv]
    unfold State.foldRecordPath
    rw [hnone hkey, hroom]
    dsimp only
    rw [State.settleRecord_eq]
    rfl

/-! ### Slices -/

/-- SWEEP_SLICE, where SWEEP is chosen (R132): the visits of 16 slots leave `t`, and the cursor moves on or the pass
ends. -/
theorem exec_sweepSlice {s : State} (hr : s.resetAsserted = false) (hg : s.grantChoice = some .sweep)
    (hlaw : TableLaw s.table) :
    ∃ t : State,
      Visited s.params (fun n => s.sweep.sliceStart ≤ n ∧ n < s.sweep.sliceStart + 16) s.table t.table s.zones
        t.zones ∧
      t = { s with
        table := t.table, zones := t.zones
        arbiter := s.backgroundGranted .sweep (s.sliceInProgress (decide (1024 ≤ s.sweep.sliceStart + 16))
          (s.table.retiredIn s.params s.sweep.sliceStart 16)) } ∧
      (s.sweep.sliceStart + 16 < 1024 → exec .sweepSlice s = .next
        { t with sweep := { s.sweep with pass := true, cursor := s.sweep.sliceStart + 16 } }) ∧
      (1024 ≤ s.sweep.sliceStart + 16 → exec .sweepSlice s = .next
        { t with
          zones := t.zones.map fun z => { live := z.building, building := 0, unlocated := 0 }
          sweep := { s.sweep with pass := false, cursor := 0 } }) := by
  have hexec : exec .sweepSlice s = .next ((s.beginGrant .sweep false s.sweep.slicesToEnd).slice) := by
    show whileReleased s _ = _
    rw [whileReleased_released _ hr, if_pos hg]
    rfl
  obtain ⟨t, -, hv, ht, hnext, hends⟩ := State.slice_visited (s.beginGrant .sweep false s.sweep.slicesToEnd) hlaw.rising
  rw [hexec]
  refine ⟨t, hv, ht.trans ?_, fun h => congrArg _ (hnext h), fun h => congrArg _ (hends h)⟩
  have hop : ∀ n, ({ requester := .sweep, liveBefore := s.table.liveCount, reportBefore := s.table.reportCount
                     tookEntry := false, endsPass := s.sweep.slicesToEnd, unplaced := false, evicted := false
                     autoRetired := 0 + n } : Operation) =
      s.sliceInProgress (decide (1024 ≤ s.sweep.sliceStart + 16)) n := by
    intro n
    rw [Nat.zero_add, Sweep.slicesToEnd_eq]
    rfl
  unfold State.afterVisits State.backgroundGranted
  rw [← hop]
  rfl

/-- Settles O28. -/
theorem sliceVisits : Obligations.SliceVisits := by
  intro s hr hg hlaw hlt
  obtain ⟨t, hv, ht, hnext, -⟩ := exec_sweepSlice hr hg hlaw
  rw [decide_eq_false (Nat.not_le_of_lt hlt)] at ht
  refine ⟨_, hnext hlt, rfl, congrArg State.arbiter ht, hv, ?_⟩
  rw [ht]

/-- OPERATION_COMPLETION while an operation is in progress (R144). -/
theorem exec_complete {s : State} {op : Operation} (hr : s.resetAsserted = false)
    (ho : s.arbiter.operation = some op) : exec .operationCompletion s = .next s.completeOperation := by
  show afterGrant s _ = _
  rw [afterGrant_busy _ hr (by rw [ho]; rfl)]

/-- The completion of a fold or slice for which no STOP and no ENGINE RESET waits (R144, R160, R164). -/
theorem exec_complete_background {s : State} {op : Operation} (hr : s.resetAsserted = false)
    (ho : s.arbiter.operation = some op) (hne : op.requester ≠ .port)
    (hq : ∀ hold stage, s.port.request = some { hold := hold, stage := stage } → stage ≠ .stop ∧ stage ≠ .engineReset) :
    exec .operationCompletion s =
      .next ((s.updArbiter fun a => { a with operation := none }).finished op).testRequestedDrain.testRuptureDrain := by
  rw [exec_complete hr ho]
  congr 1
  rcases s.completeOperation_cases with ⟨hn, -⟩ | ⟨op', ho', hp, -⟩ | ⟨op', ho', -, e⟩
  · rw [ho] at hn
    cases hn
  · rw [ho] at ho'
    cases ho'
    exact absurd hp hne
  · rw [ho] at ho'
    cases ho'
    rw [e]
    rcases (s.updArbiter fun a => { a with operation := none }).completeBackground_cases op with
      ⟨e, -⟩ | ⟨hold, h, -⟩ | ⟨hold, h, -⟩
    · exact e
    · exact absurd rfl (hq hold _ h).1
    · exact absurd rfl (hq hold _ h).2

/-- The tests of the drains leave the Scheduler. -/
theorem State.testDrains_sweep (s : State) : s.testRequestedDrain.testRuptureDrain.sweep = s.sweep := by
  rw [State.testRuptureDrain_frame, State.testRequestedDrain_frame]

/-- Settles O29: the completion of the slice lowers the backlog. -/
theorem passEnds : Obligations.PassEnds := by
  intro s hr hg hlaw hle
  obtain ⟨t, hv, ht, -, hends⟩ := exec_sweepSlice hr hg hlaw
  rw [decide_eq_true hle] at ht
  refine ⟨_, t.zones, hends hle, rfl, fun hq => ?_, congrArg State.arbiter ht, hv, fun c => by simp, ?_⟩
  · have hop := congrArg (fun u : State => u.arbiter.operation) ht
    exact ⟨_, exec_complete_background (by rw [ht]; exact hr) hop nofun fun hold stage h => by
      rw [ht] at h
      exact absurd (hq.symm.trans h) nofun, State.testDrains_sweep _⟩
  · rw [ht]

end Sys2Proof.Machine
end

section
/-! The statements about the Table Arbiter: who is granted, what a grant to PORT does, completions and time limits
(chapter 8). -/

namespace Sys2Proof.Machine

/-! ### Who requests -/

theorem State.foldRequests_iff (s : State) :
    s.foldRequests = true ↔ (s.run.state = .listening ∧ s.former.queue ≠ []) ∨
      (s.run.state = .freezing ∧ ∃ e ∈ s.former.queue, e.held = false) := by
  unfold State.foldRequests
  cases s.run.state <;> simp

theorem State.sweepRequests_iff (s : State) :
    s.sweepRequests = true ↔ (s.run.state = .listening ∨ s.run.state = .freezing) ∧
      (0 < s.sweep.backlog ∨ s.sweep.pass = true) := by
  simp [State.sweepRequests]

theorem State.portRequests_iff (s : State) :
    s.portRequests = true ↔ ∃ hold work, s.port.request = some { hold := hold, stage := .waiting work } := by
  unfold State.portRequests State.portWork
  split
  · next hold work hq => exact ⟨fun _ => ⟨hold, work, hq⟩, fun _ => rfl⟩
  · next hn => exact ⟨nofun, fun ⟨hold, work, hq⟩ => absurd hq (hn hold work)⟩

/-- PORT against a background candidate (R147). -/
theorem State.portWins_iff (s : State) (b : Requester) :
    s.portWins b = true ↔
      if s.params.policy = 0 then s.arbiter.recency.idxOf b < s.arbiter.recency.idxOf .port
      else s.params.starveLimit ≤ s.arbiter.starvation := by
  unfold State.portWins lessRecent
  split <;> simp

/-! ### The background candidate (R146, step 3) -/

section
variable {s : State}

/-- Where the sweep does not press, FOLD goes first, and SWEEP where no other requests. -/
theorem State.background_slack (h : s.sweepRequests = false ∨ s.sweep.backlog ≤ 3) :
    s.background = if s.foldRequests then some .fold
      else if s.sweepRequests && !s.portRequests then some .sweep else none := by
  unfold State.background
  dsimp only
  split
  · next hs =>
    have hb : s.sweep.backlog ≤ 3 := h.resolve_left (by simp [hs])
    unfold urgencyOf
    by_cases h0 : s.sweep.backlog = 0 <;> simp [h0, hb]
  · rfl

/-- At STEADY the less recently granted of FOLD and SWEEP goes first. -/
theorem State.background_steady (hs : s.sweepRequests = true) (h4 : 4 ≤ s.sweep.backlog) (h7 : s.sweep.backlog ≤ 7) :
    s.background = if s.foldRequests = true ∧
        s.arbiter.recency.idxOf .sweep < s.arbiter.recency.idxOf .fold then some .fold else some .sweep := by
  have hu : urgencyOf s.sweep.backlog = .steady := by
    unfold urgencyOf
    rw [if_neg (by omega), if_neg (by omega), if_pos h7]
  unfold State.background lessRecent
  cases hf : s.foldRequests <;>
    by_cases hl : s.arbiter.recency.idxOf .sweep < s.arbiter.recency.idxOf .fold <;> simp [hs, hu, hl]

/-- From NEED on SWEEP goes first. -/
theorem State.background_pressing (hs : s.sweepRequests = true) (h8 : 8 ≤ s.sweep.backlog) :
    s.background = some .sweep := by
  have hu : urgencyOf s.sweep.backlog = .need ∨ urgencyOf s.sweep.backlog = .must := by
    unfold urgencyOf
    rw [if_neg (by omega), if_neg (by omega), if_neg (by omega)]
    split
    · exact .inl rfl
    · exact .inr rfl
  unfold State.background
  rcases hu with hu | hu <;> simp [hs, hu]

/-! ### The choice -/

theorem State.grantChoice_locked (ho : s.arbiter.operation = none) (hl : s.arbiter.locked = true) :
    s.grantChoice = if s.portRequests then some .port else none := by
  simp [State.grantChoice, ho, hl]

/-- At MUST the sweep is granted (R146, step 2). -/
theorem State.grantChoice_must (ho : s.arbiter.operation = none) (hl : s.arbiter.locked = false)
    (hs : s.sweepRequests = true) (hm : 12 ≤ s.sweep.backlog) : s.grantChoice = some .sweep := by
  have hu : urgencyOf s.sweep.backlog = .must := by
    unfold urgencyOf
    rw [if_neg (by omega), if_neg (by omega), if_neg (by omega), if_neg (by omega)]
  simp [State.grantChoice, ho, hl, hs, hu]

/-- Short of MUST, PORT goes against the background candidate (R146, step 4). -/
theorem State.grantChoice_open (ho : s.arbiter.operation = none) (hl : s.arbiter.locked = false)
    (hm : s.sweepRequests = false ∨ s.sweep.backlog ≤ 11) :
    s.grantChoice =
      match s.background with
      | none => if s.portRequests then some .port else none
      | some b => if s.portRequests && s.portWins b then some .port else some b := by
  have hmust : (s.sweepRequests && urgencyOf s.sweep.backlog == .must) = false := by
    rcases hm with hs | hb
    · rw [hs, Bool.false_and]
    · have hu : urgencyOf s.sweep.backlog ≠ .must := by
        unfold urgencyOf
        repeat' split
        all_goals nofun
      rw [beq_eq_false_iff_ne.mpr hu, Bool.and_false]
  unfold State.grantChoice
  rw [ho, hl, hmust]
  rfl

/-- PORT against a candidate, in the terms of R147. -/
theorem State.grantChoice_candidate (ho : s.arbiter.operation = none) (hl : s.arbiter.locked = false)
    (hm : s.sweepRequests = false ∨ s.sweep.backlog ≤ 11) {b : Requester} (hb : s.background = some b) :
    (s.portRequests = true ∧ s.portWins b = true → s.grantChoice = some .port) ∧
      (¬(s.portRequests = true ∧ s.portWins b = true) → s.grantChoice = some b) := by
  rw [State.grantChoice_open ho hl hm, hb]
  refine ⟨fun ⟨hp, hw⟩ => ?_, fun hn => ?_⟩
  · simp [hp, hw]
  · simp only [← Bool.and_eq_true] at hn
    simp [hn]

end

/-! ### Grants before the other commands (R144) -/

/-- A character that is received as data carries its byte (R4). -/
theorem carries_of_receive_data {ch : Character} {b : Byte} (h : receive ch = .data b) : Carries false b ch := by
  unfold receive at h
  split at h
  · cases h
  · next hstart =>
    split at h
    · next hgood =>
      split at h
      · cases h
      · next hmark =>
        cases h
        simp only [characterGood, Bool.and_eq_true, beq_iff_eq] at hgood
        exact ⟨by simpa using hstart, fun i hi => by simp [characterData, hi, Nat.add_comm], Bool.eq_false_iff.mpr hmark,
          characterOnes_eq ch ▸ hgood.1, hgood.2⟩
    · cases h

/-- The rupture test, in numbers (R77). -/
theorem State.ruptures_iff (s : State) (pressure : Nat) :
    s.ruptures pressure = true ↔ s.run.state ≠ .setup ∧ s.monitor.cutoff = none ∧
      ∃ q, s.monitor.current = some q ∧ s.params.ruptureFloor ≤ q ∧ pressure + s.params.ruptureDrop ≤ q := by
  unfold State.ruptures
  cases s.monitor.current <;> simp [and_assoc]

theorem bytesToNat_pair (low high : Byte) : bytesToNat [low, high] = low.toNat + 256 * high.toNat := by
  simp [bytesToNat]

/-- The character that latches a rupture, in the terms of the statements (R65, R67, R77). -/
theorem State.latchesRupture_iff (s : State) (ch : Character) : s.latchesRupture ch = true ↔ s.RuptureBy ch := by
  unfold State.latchesRupture State.RuptureBy
  constructor
  · intro h
    split at h
    · next b low high hr hp =>
      rw [Bool.and_eq_true, State.ruptures_iff, bytesToNat_pair] at h
      obtain ⟨hb, hs, hc, q, hq, hfloor, hdrop⟩ := h
      exact ⟨low, high, b, q, carries_of_receive_data hr, hp, hb, hs, hc, hq, hfloor, hdrop⟩
    · cases h
  · rintro ⟨low, high, b, q, hch, hp, hb, hs, hc, hq, hfloor, hdrop⟩
    rw [hch.receive, hp]
    simp only [Bool.false_eq_true, if_false]
    rw [Bool.and_eq_true, State.ruptures_iff, bytesToNat_pair]
    exact ⟨hb, hs, hc, q, hq, hfloor, hdrop⟩

/-- The grant command of a requester that is not chosen changes nothing (log entry 5); that of the chosen one makes its
grant. -/
theorem exec_command (s : State) (r : Requester) :
    exec r.command s = whileReleased s (if s.grantChoice = some r then s.grant r else s) := by
  cases r <;> rfl

/-- Any other command, taken while a grant is owed, does what it does after that grant (R144). -/
theorem exec_after_grant {s : State} {r : Requester} (hr : s.resetAsserted = false) (hg : s.grantChoice = some r)
    {c : Instr} (h1 : c ≠ .reset) (h2 : c ≠ .resetnRelease) (h3 : c ≠ .lockExpiry) (h4 : c ≠ .annunciatorFrameStart)
    (hc : ∀ q : Requester, c ≠ q.command)
    (hfull : c = .hitPlacement ∨ c = .eventExpiry → s.former.queue.length < 64)
    (hrup : ∀ ch, c = .plinDataCharacter ch → r = .fold → ¬s.RuptureBy ch) : exec c s = exec c (s.grant r) := by
  obtain ⟨f, hf⟩ := exec_afterGrant h1 h2 (hc .port) (hc .fold) (hc .sweep) h3 h4
  obtain ⟨hreset, op, hop, -⟩ := State.grant_begins hg
  have hbusy : (s.grant r).arbiter.operation.isSome = true := by rw [hop]; rfl
  have hs := hf s hfull fun ch he ⟨hfold, hl⟩ => by
    rw [hg] at hfold
    exact hrup ch he (Option.some.inj hfold) ((s.latchesRupture_iff ch).mp hl)
  have hg' := hf (s.grant r) (fun h => Nat.lt_of_le_of_lt (State.Shrinks.grant hg).queue (hfull h)) fun ch _ ⟨hfold, _⟩ => by
    rw [State.grantChoice_busy hbusy] at hfold
    cases hfold
  rw [hs, hg', afterGrant_busy f (hreset.trans hr) hbusy, afterGrant, State.grantOwed_some hg,
    whileReleased_released _ hr]

/-- Settles O31. -/
theorem grantChosen : Obligations.GrantChosen := by
  intro s command
  have hcommand (r : Requester) : command r = r.command := by
    cases r <;> rfl
  clear_value command
  obtain rfl : command = Requester.command := funext hcommand
  refine ⟨fun ho => State.grantChoice_busy (Option.isSome_iff_ne_none.mpr ho), fun r hn => ?_, fun r hr hg => ?_,
    fun ho => ?_⟩
  · rw [exec_command, if_neg hn]
    rcases whileReleased_cases s s with ⟨-, e⟩ | ⟨-, e⟩ <;> exact e
  · obtain ⟨-, op, hop, hreq⟩ := State.grant_begins hg
    refine ⟨s.grant r, ?_, ⟨op, hop, hreq⟩, fun c h1 h2 h3 h4 => exec_after_grant hr hg h1 h2 h3 h4⟩
    rw [exec_command, if_pos hg, whileReleased_released _ hr]
  · simp only [← State.foldRequests_iff, ← State.sweepRequests_iff, ← State.portRequests_iff, ← State.portWins_iff]
    refine ⟨fun hl => ?_, fun hl => ⟨fun hf hs hp => ?_, fun hs hm => State.grantChoice_must ho hl hs hm,
      fun hs h8 h11 => State.grantChoice_candidate ho hl (.inr h11) (State.background_pressing hs h8),
      fun hs h4 h7 b hfold hsweep => ?_, fun hslack hf => ?_, fun hslack hf hp => ?_, fun hs hb hf hp => ?_⟩⟩
    · rw [State.grantChoice_locked ho hl]
      exact ⟨fun hp => if_pos hp, fun hp => if_neg hp⟩
    · have hs' : s.sweepRequests = false := by simpa using hs
      rw [State.grantChoice_open ho hl (.inl hs'), State.background_slack (.inl hs')]
      simp_all
    · refine State.grantChoice_candidate ho hl (.inr (by omega)) ?_
      rw [State.background_steady hs h4 h7]
      split
      · next h => rw [hfold h]
      · next h => rw [hsweep h]
    · have hslack' : s.sweepRequests = false ∨ s.sweep.backlog ≤ 3 := hslack.imp_left (by simp)
      refine State.grantChoice_candidate ho hl (hslack'.imp_right fun h => by omega) ?_
      rw [State.background_slack hslack', if_pos hf]
    · have hslack' : s.sweepRequests = false ∨ s.sweep.backlog ≤ 3 := hslack.imp_left (by simp)
      rw [State.grantChoice_open ho hl (hslack'.imp_right fun h => by omega), State.background_slack hslack', if_neg hf,
        hp, Bool.not_true, Bool.and_false]
      rfl
    · rw [State.grantChoice_open ho hl (.inr (by omega)), State.background_slack (.inr hb), if_neg hf]
      have hp' : s.portRequests = false := by simpa using hp
      rw [hs, hp']
      rfl

/-- Settles O32: the grant of a request is one equation. -/
theorem portGrantBegins : Obligations.PortGrantBegins := by
  intro hold work s hr hq hg
  dsimp only
  show whileReleased s _ = _
  rw [whileReleased_released _ hr, if_pos hg]
  have hgrant := State.grant_port hq
  exact congrArg _ hgrant

/-- The condition under which a completion enters FROZEN (R160, R164). -/
theorem State.drained_iff (s : State) : s.Drained ↔ s.run.state = .freezing ∧ s.sweep.backlog = 0 ∧
    s.sweep.pass = false ∧
      ((s.run.flavour = some .requested ∧ ∀ e ∈ s.former.queue, e.held = true) ∨
        (s.run.flavour = some .rupture ∧ s.former.queue = [] ∧ s.former.openSet = [])) := Iff.rfl

/-- Settles O33: a completion counts, and enters FROZEN where a drain is complete; a PORT operation is answered. -/
theorem operationCompletes : Obligations.OperationCompletes := by
  intro op s hr ho
  refine ⟨fun hne hq => ?_, fun hp hold status payload hq => ?_⟩
  · have hexec := exec_complete_background hr ho hne hq
    have hidle : ((s.updArbiter fun a => { a with operation := none }).finished op).backgroundBusy = false := rfl
    refine ⟨fun hnot => ?_, fun hdr => ?_⟩
    · rw [hexec, State.testDrains_not hidle hnot]
      rfl
    · rw [hexec, State.testDrains_drained hidle hdr]
      rfl
  · have hcomplete : s.completeOperation = (s.updArbiter fun a => { a with operation := none }).completePort := by
      unfold State.completeOperation
      simp only [ho, hp, if_true]
    rw [exec_complete hr ho, hcomplete]
    unfold State.completePort
    refine ⟨fun hb => ?_, fun hb => ?_⟩
    · simp only [State.updArbiter, hb, hq, Bool.false_eq_true, if_false]
      cases hold <;> simp [State.respond, State.releaseLock, State.updArbiter]
    · simp only [State.updArbiter, hb, if_true]
      simp only [State.forceRelease, State.updArbiter, State.updLatches, hq]
      cases hold <;> simp [State.respond, State.releaseLock, State.updArbiter]

/-! ### Time limits -/

/-- A limit reached across the full wrap of the timebase (R68, R151). -/
theorem State.elapsed_iff (s : State) (stamp limit : Nat) :
    limit ≤ s.elapsedSince stamp ↔ (limit : Int) ≤ ((s.now : Int) - stamp) % 2 ^ 48 := by
  have h0 : 0 ≤ ((s.now : Int) - stamp) % 2 ^ 48 := Int.emod_nonneg _ (by decide)
  exact Int.le_toNat h0

/-- A limit of thousands of ticks (R68, R151). -/
theorem State.elapsed_thousand_iff (s : State) (stamp limit : Nat) :
    limit * 1000 ≤ s.elapsedSince stamp ↔ (limit * 1000 : Int) ≤ ((s.now : Int) - stamp) % 2 ^ 48 :=
  s.elapsed_iff stamp (limit * 1000)

/-- Settles O34. -/
theorem timeLimitsExpire : Obligations.TimeLimitsExpire := by
  intro s hr
  refine ⟨fun hg hc hlimit => ?_, fun hl hb hlimit => ?_⟩
  · have hstale : s.sampleStale = true := by
      simp only [State.sampleStale, Bool.and_eq_true, decide_eq_true_eq]
      exact ⟨hc, (s.elapsed_thousand_iff _ _).mpr hlimit⟩
    show afterGrant s _ = _
    rw [afterGrant_steady _ (State.steady_iff.mpr ⟨hr, hg⟩), State.testSampleTimeout, if_pos hstale]
    rfl
  · have hexp : s.lockExpired = true := by
      simp only [State.lockExpired, hl, hb, Bool.true_and, Bool.not_false, decide_eq_true_eq]
      exact (s.elapsed_thousand_iff _ _).mpr hlimit
    have hexec : exec .lockExpiry s = .next (if s.portBusyAtTable then s.updArbiter fun a => { a with breaking := true }
        else s.forceRelease) := by
      show whileReleased s s.testLockExpiry = _
      rw [whileReleased_released _ hr, State.testLockExpiry_eq, if_pos hexp]
    dsimp only
    refine ⟨fun hp => ?_, fun hp => ?_, fun hold work hq ho => ⟨?_, fun hs hm => ?_, fun hg => ?_⟩⟩
    · rw [hexec, hp]
      simp [State.forceRelease, State.updArbiter, State.updLatches, hb]
    · rw [hexec, hp]
      rfl
    · rw [State.grantChoice_locked ho hl, if_pos ((State.portRequests_iff s).mpr ⟨hold, work, hq⟩)]
    · exact State.grantChoice_must ho rfl hs hm
    · have hgrant := portGrantBegins hold work { s with
        arbiter := { s.arbiter with locked := false, lockLost := true }
        latches := { s.latches with lockBroken := true } } hr hq hg
      refine ⟨_, hgrant, Bool.false_or _, fun hhold => ?_⟩
      rw [hhold]
      rfl

end Sys2Proof.Machine
end

section
/-! The statements about the machine itself: the step, RESETn, the tick and what an empty queue does (chapters 0 and 1). -/

namespace Sys2Proof.Machine

/-- Settles O1: the definition of a step on a queue with a front. -/
theorem stepTakesFront : Obligations.StepTakesFront := by
  intro c rest s hp
  rw [step, hp]

/-! ### RESETn -/

/-- Settles O2: the after-RESET state, block by block. -/
theorem resetValues : Obligations.ResetValues := by
  have hchannel (c : Channel) : State.reset.accepted c = false ∧
      State.reset.intake.faults[c] = { faulted := false, code := 0 } ∧
      State.reset.sensors[c] = { ring := 0, column := 0, enabled := false } ∧
      State.reset.zones[c] = { live := 0, building := 0, unlocated := 0 } := by
    have hsensor : State.reset.sensors[c] = { ring := 0, column := 0, enabled := false } := by
      simp [State.reset]
    refine ⟨?_, ?_, hsensor, ?_⟩
    · rw [State.accepted, hsensor]
      rfl
    · simp [State.reset, Intake.reset]
    · simp [State.reset]
  exact ⟨rfl, rfl, rfl, rfl, rfl, rfl, rfl, rfl, rfl, rfl, rfl, rfl, rfl, hchannel, rfl, rfl, rfl, rfl, rfl, rfl, rfl,
    rfl, rfl, rfl, rfl, rfl, rfl, rfl, rfl, rfl, rfl, rfl, rfl, rfl⟩

theorem whileReleased_held {s : State} (t : State) (h : s.resetAsserted = true) : whileReleased s t = .next s := by
  rcases whileReleased_cases s t with ⟨-, e⟩ | ⟨h', -⟩
  · exact e
  · rw [h] at h'
    cases h'

/-- While RESETn is asserted no command but its own changes anything (R1). -/
theorem exec_held {c : Instr} {s : State} (h : s.resetAsserted = true) (h1 : c ≠ .reset) (h2 : c ≠ .resetnRelease) :
    exec c s = .next s := by
  have hafter (f : State → State) : afterGrant s f = .next s := whileReleased_held _ h
  cases c
  case reset => exact absurd rfl h1
  case resetnRelease => exact absurd rfl h2
  case hitPlacement | eventExpiry =>
    refine (offering_cases s _).elim (fun ⟨_, e⟩ => e.trans (hafter _)) fun ⟨_, e⟩ => e.trans (whileReleased_held _ h)
  case plinDataCharacter ch =>
    rcases execPlinDataCharacter_cases ch s with ⟨-, -, e⟩ | ⟨-, e⟩
    · exact e.trans (whileReleased_held _ h)
    · exact e.trans (hafter _)
  all_goals exact whileReleased_held _ h

/-- Settles O3. -/
theorem resetRestartsThePart : Obligations.ResetRestartsThePart := by
  intro s
  refine ⟨rfl, rfl, rfl, by simp [State.tbclkRuns], fun h => ⟨?_, rfl, rfl, fun c h1 h2 => exec_held h h1 h2⟩⟩
  show Host.Outcome.next s.releaseReset = _
  rw [State.releaseReset, if_pos h]

/-! ### The tick -/

/-- The expiries that are due, in the terms of R19, R20, R33, R68, R128, R151 and R173. -/
theorem State.sampleStale_iff (s : State) : s.sampleStale = true ↔ s.monitor.current.isSome = true ∧
    (s.params.sampleTimeout * 1000 : Int) ≤ ((s.now : Int) - s.monitor.stamp) % 2 ^ 48 := by
  simp only [State.sampleStale, Bool.and_eq_true, decide_eq_true_eq, State.elapsed_thousand_iff]

theorem State.dueEvent_isSome (s : State) :
    s.dueEvent.isSome = true ↔ ∃ e ∈ s.former.openSet, e.expiry ≤ s.now := by
  simp [State.dueEvent, List.findIdx?_isSome]

theorem State.sweepDue_eq (s : State) :
    s.sweepDue = s.sweep.timer.any fun x => decide (x.interval ≤ x.elapsed) := by
  unfold State.sweepDue
  cases s.sweep.timer <;> rfl

theorem State.annDue_eq (s : State) :
    s.annDue = s.annunciator.timer.any fun x => decide (x.interval ≤ x.elapsed) := by
  unfold State.annDue
  cases s.annunciator.timer <;> rfl

theorem State.lockExpired_iff (s : State) : s.lockExpired = true ↔ s.arbiter.locked = true ∧
    s.arbiter.breaking = false ∧
    (s.params.lockLimit * 1000 : Int) ≤ ((s.now : Int) - s.arbiter.acquired) % 2 ^ 48 := by
  simp only [State.lockExpired, Bool.and_eq_true, Bool.not_eq_true', decide_eq_true_eq,
    State.elapsed_thousand_iff, and_assoc]

theorem State.wrapNext_iff (s : State) : s.wrapNext = true ↔ s.now % 2 ^ 32 = 2 ^ 32 - 1 := by
  simp only [State.wrapNext, State.lowTicks, Config.lowSpan, beq_iff_eq]
  omega

theorem Intake.nextServed_eq_none (i : Intake) :
    i.nextServed = none ↔ i.laneA.slot = none ∧ i.laneB.slot = none := by
  unfold Intake.nextServed
  cases i.laneA.slot <;> cases i.laneB.slot <;> simp
  split <;> simp

/-- A step on an empty queue (log entry 2). -/
theorem step_idle {s : State} (hp : s.pending = []) : step s = .next s.idle := by
  rw [step, hp]

/-- Settles O4. -/
theorem timebaseCounts : Obligations.TimebaseCounts := by
  intro s hr timer ticked due work
  have htick : s.tick = ticked := by
    have hmark : ((s.now + 1) % 2 ^ 48 % 2 ^ 32 == 0) = decide ((s.now + 1) % 2 ^ 32 = 0) := by
      rw [Nat.mod_mod_of_dvd _ (by decide : 2 ^ 32 ∣ 2 ^ 48)]
      rfl
    unfold State.tick
    simp only [Config.timebaseSpan, Config.lowSpan, hmark]
    rfl
  have hdue : s.dueExpiries = due := by
    unfold State.dueExpiries
    simp only [State.sampleStale_iff, State.dueEvent_isSome, State.sweepDue_eq, State.lockExpired_iff, State.annDue_eq]
    rfl
  have hwork : s.ownWork = work := by
    unfold State.ownWork
    simp only [Option.isSome_iff_ne_none, Intake.nextServed_eq_none, List.isEmpty_iff, ite_not, ne_eq]
    rfl
  have hidle (hp : s.pending = []) (hg : s.grantChoice = none) : step s = .next
      (if s.dueExpiries ≠ [] then { s with pending := s.dueExpiries }
        else if s.wrapNext then { s with pending := .lowTicksWrap :: s.ownWork }
        else { s.tick with pending := s.ownWork }) := by
    rw [step_idle hp, State.idle, hg, if_neg (by simp [hr])]
  rw [hdue, hwork, htick] at hidle
  refine ⟨fun hw hg => ?_, fun hp r hg => ?_, fun hp hg => ⟨fun hd => ?_, fun hd hw => ?_, fun hd hw => ?_⟩⟩
  · refine (afterGrant_steady (fun u => if u.wrapNext then u.tick else u) (State.steady_iff.mpr ⟨hr, hg⟩)).trans ?_
    rw [if_pos ((s.wrapNext_iff).mpr hw), htick]
  · rw [step_idle hp, State.idle, hg, if_neg (by simp [hr])]
    cases r <;> rfl
  · rw [hidle hp hg, if_pos hd]
  · rw [hidle hp hg, if_neg (fun h => h hd), if_pos ((s.wrapNext_iff).mpr hw)]
  · rw [hidle hp hg, if_neg (fun h => h hd), if_neg (mt (s.wrapNext_iff).mp hw)]

end Sys2Proof.Machine
end

section
/-! The statements about the hit intake (chapter 1): headers, data characters, completed frames, the Merge, and the ends
of the restart and settle counts. -/

namespace Sys2Proof.Machine

/-! ### A lane changed -/

section
variable {s : State} {l : Lane}

/-- Two changes of a lane are one. -/
theorem State.updLane_updLane (s : State) (l : Lane) (f g : LaneReceiver → LaneReceiver) :
    (s.updLane l f).updLane l g = s.updLane l fun r => g (f r) := by
  cases l <;> rfl

/-- A change of a lane rests on what the lane is. -/
theorem State.updLane_congr {f g : LaneReceiver → LaneReceiver} (h : f (s.intake.lane l) = g (s.intake.lane l)) :
    s.updLane l f = s.updLane l g := by
  cases l
  · exact congrArg (fun r => s.updIntake fun i => { i with laneA := r }) h
  · exact congrArg (fun r => s.updIntake fun i => { i with laneB := r }) h

@[simp] theorem State.updLane_lane (s : State) (l : Lane) (f : LaneReceiver → LaneReceiver) :
    (s.updLane l f).intake.lane l = f (s.intake.lane l) := by
  cases l <;> rfl

@[simp] theorem State.updLane_accepted (s : State) (l : Lane) (f : LaneReceiver → LaneReceiver) (c : Channel) :
    (s.updLane l f).accepted c = s.accepted c := by
  cases l <;> rfl

end

/-! ### Headers -/

theorem getLsbD_eq_div (b : Byte) (i : Nat) : b.getLsbD i = decide (b.toNat / 2 ^ i % 2 = 1) :=
  Nat.testBit_eq_decide_div_mod_eq

/-- The kind of a header is its bits 7 and 6 (Table 12-1). -/
theorem headerKind_eq (b : Byte) :
    headerKind b = if b.toNat / 64 = 0 then .hit else if b.toNat / 64 = 1 then .fault
      else if b.toNat / 64 = 2 then .unused else .pressure := by
  have hb := b.isLt
  simp only [headerKind, getLsbD_eq_div, decide_eq_true_eq]
  split <;> split <;> repeat' split
  all_goals first | rfl | omega

/-- The channel of a header is its bits 5 to 0 (Table 12-1). -/
theorem headerChannel_eq (b : Byte) : headerChannel b = ⟨b.toNat % 64, by omega⟩ := by
  apply Fin.ext
  simp [headerChannel]

/-- Settles O5: the lane that is left is the last change of it. -/
theorem headerTaken : Obligations.HeaderTaken := by
  intro l ch b s hch hs hopen
  rw [exec_hitLaneHeader_steady l ch hs, State.takeHitCharacter, if_pos hopen, hch.receive]
  congr 1
  have hb := b.isLt
  have hkind : b.toNat / 64 = 0 ∨ b.toNat / 64 = 1 ∨ b.toNat / 64 = 2 ∨ b.toNat / 64 = 3 := by omega
  simp only [if_true, State.laneHeader, State.examineHeader, State.openFrame, headerKind_eq, headerChannel_eq,
    State.setLaneState]
  cases hst : (s.intake.lane l).state <;> rcases hkind with h | h | h | h <;>
    cases hacc : s.accepted ⟨b.toNat % 64, by omega⟩ <;>
    simp only [h, hacc, State.updLane_updLane, State.updLane_accepted] <;>
    exact State.updLane_congr (by simp [hst])

/-! ### Data characters -/

/-- A good data character on an open lane is the lane's data (R4). -/
theorem State.takeHitCharacter_data {s : State} {l : Lane} {ch : Character} {b : Byte} (hch : Carries false b ch)
    (hopen : (s.intake.lane l).state.isOpen = true) : s.takeHitCharacter l ch = s.laneData l b := by
  rw [State.takeHitCharacter, if_pos hopen, hch.receive]
  rfl

/-- Settles O6: a frame takes the character, and without a frame it is ignored. -/
theorem dataCharacterTaken : Obligations.DataCharacterTaken := by
  intro l ch s hs
  refine ⟨fun b hch => ⟨fun fr hfr hlen => ?_, fun hst => ?_⟩, fun hidle => ?_⟩
  · rw [exec_hitLaneDataCharacter_steady l ch hs, State.takeHitCharacter_data hch (by rw [hfr]; rfl), State.laneData, hfr]
    have hroom : (fr.bytes ++ [b]).length < fr.kind.dataBytes := by
      rw [List.length_append]
      cases hk : fr.kind <;> rw [hk] at hlen <;> exact hlen
    dsimp only
    rw [if_pos hroom]
    rfl
  · rw [exec_hitLaneDataCharacter_steady l ch hs]
    rcases hst with hst | hst <;>
      rw [State.takeHitCharacter_data hch (by rw [hst]; rfl), State.laneData, hst]
  · have hsame : s.takeHitCharacter l ch = s := by
      rw [State.takeHitCharacter, receive_idle hidle]
      split <;> rfl
    rw [exec_hitLaneHeader_steady l ch hs, exec_hitLaneDataCharacter_steady l ch hs,
      exec_hitLaneCharacterError_steady l ch hs, hsame]
    exact ⟨rfl, rfl, rfl⟩

/-! ### Completed frames -/

/-- The last data character of a frame completes it in a lane that hunts again (R7). -/
theorem exec_completeFrame {s : State} {l : Lane} {ch : Character} {b : Byte} {fr : LaneFrame}
    (hch : Carries false b ch) (hs : s.steady = true) (hfr : (s.intake.lane l).state = .accepting fr)
    (hlen : fr.bytes.length + 1 = fr.kind.dataBytes) :
    exec (.hitLaneDataCharacter l ch) s =
      .next ((s.setLaneState l .hunting).completeFrame l { fr with bytes := fr.bytes ++ [b] }) := by
  rw [exec_hitLaneDataCharacter_steady l ch hs, State.takeHitCharacter_data hch (by rw [hfr]; rfl), State.laneData, hfr]
  dsimp only
  rw [if_neg]
  rw [List.length_append, List.length_singleton, hlen]
  exact Nat.lt_irrefl _

theorem State.setLaneState_accepted (s : State) (l : Lane) (st : LaneState) (c : Channel) :
    (s.setLaneState l st).accepted c = s.accepted c := State.updLane_accepted s l _ c

/-- A frame for a channel no longer accepted is counted FOREIGN (R7). -/
theorem State.completeFrame_foreign {s : State} {l : Lane} {fr : LaneFrame} (h : s.accepted fr.channel = false) :
    (s.setLaneState l .hunting).completeFrame l fr =
      s.updLane l fun r => { r with state := .hunting, foreigns := bump r.foreigns } := by
  rw [State.completeFrame, State.setLaneState_accepted, h, if_neg (by simp), State.setLaneState, State.updLane_updLane]

/-- Settles O8: FOREIGN, MALFORMED for code 0, and else FAULTED. -/
theorem faultFrameTaken : Obligations.FaultFrameTaken := by
  intro l ch code s fr hch hs hfr hkind hbytes
  rw [exec_completeFrame hch hs hfr (by rw [hkind, hbytes]; rfl)]
  cases hacc : s.accepted fr.channel
  · rw [State.completeFrame_foreign (fr := { fr with bytes := fr.bytes ++ [code] }) hacc]
    rfl
  · congr 1
    rw [State.completeFrame, State.setLaneState_accepted, hacc, hkind, hbytes]
    simp only [if_true, List.nil_append, List.getD_cons_zero, State.faultFrame, State.setLaneState,
      State.updLane_updLane]

/-! ### The time of a hit -/

/-- The signed difference that fits the frame time is the one that R13 forms. -/
theorem frameDifference_eq {now frameTime : Nat} {d : Int} (hlo : -2 ^ 31 ≤ d) (hhi : d < 2 ^ 31)
    (h : ((now : Int) + d) % 2 ^ 32 = frameTime) : frameDifference now frameTime = d := by
  have hmod : (modSub frameTime (now % Config.lowSpan) Config.lowSpan : Int) = d % 2 ^ 32 := by
    have hnn : 0 ≤ ((frameTime : Int) - ((now % 2 ^ 32 : Nat) : Int)) % 2 ^ 32 := Int.emod_nonneg _ (by decide)
    refine (Int.toNat_of_nonneg hnn).trans ?_
    omega
  unfold frameDifference
  dsimp only
  split <;> omega

theorem reconstructTime_eq {now frameTime : Nat} {d : Int} (hlo : -2 ^ 31 ≤ d) (hhi : d < 2 ^ 31)
    (h : ((now : Int) + d) % 2 ^ 32 = frameTime) :
    reconstructTime now frameTime =
      if (now : Int) + d < 0 ∨ 10000 < d then none else some (((now : Int) + d).toNat % 2 ^ 48) := by
  unfold reconstructTime
  rw [frameDifference_eq hlo hhi h]
  rfl

/-! ### The fields of a hit frame (Table 12-2) -/

theorem bytesToNat_drop_take_one (b : List Byte) (i : Nat) :
    bytesToNat ((b.drop i).take 1) = (b.getD i 0).toNat := by
  induction b generalizing i with
  | nil => simp [bytesToNat]
  | cons a b ih =>
    cases i with
    | zero => simp [bytesToNat]
    | succ i => exact ih i

theorem bytesToNat_drop_take_two (b : List Byte) (i : Nat) :
    bytesToNat ((b.drop i).take 2) = (b.getD i 0).toNat + 256 * (b.getD (i + 1) 0).toNat := by
  induction b generalizing i with
  | nil => simp [bytesToNat]
  | cons a b ih =>
    cases i with
    | zero => cases b <;> simp [bytesToNat]
    | succ i => exact ih i

theorem hitDescriptor_eq (c : Channel) (time : Nat) (bytes : List Byte) :
    hitDescriptor c time bytes =
      { channel := c
        time := time
        amplitude := min 100 (bytes.getD 4 0).toNat
        energy := (bytes.getD 5 0).toNat + 256 * (bytes.getD 6 0).toNat
        duration := (bytes.getD 7 0).toNat + 256 * (bytes.getD 8 0).toNat
        riseTime := (bytes.getD 9 0).toNat } := by
  simp only [hitDescriptor, bytesToNat_drop_take_one, bytesToNat_drop_take_two]

theorem Params.noisy_iff (p : Params) (d : Descriptor) :
    p.noisy d = true ↔ d.duration < p.minDuration ∨ p.maxDuration < d.duration ∨ p.maxRise < d.riseTime := by
  simp [Params.noisy, or_assoc]

/-- Settles O7: FOREIGN, TIME_FAULT, NOISE, and else a descriptor in the holding slot. -/
theorem hitFrameCompletes : Obligations.HitFrameCompletes := by
  intro l ch last s fr d hch hs hfr hkind hlen hlo hhi htime byte duration noisy
  rw [exec_completeFrame hch hs hfr (by rw [hkind, hlen]; rfl)]
  have htake : (fr.bytes ++ [last]).take 4 = fr.bytes.take 4 :=
    List.take_append_of_le_length (by omega)
  have hcomplete (hacc : s.accepted fr.channel = true) :
      (s.setLaneState l .hunting).completeFrame l { fr with bytes := fr.bytes ++ [last] } =
        (s.setLaneState l .hunting).hitFrame l fr.channel (fr.bytes ++ [last]) := by
    rw [State.completeFrame, State.setLaneState_accepted, if_pos hacc]
    dsimp only
    rw [hkind]
  have hnow : (s.setLaneState l .hunting).now = s.now := rfl
  have hparams : (s.setLaneState l .hunting).params = s.params := rfl
  have hrec := reconstructTime_eq hlo hhi htime
  have hnoisy (time : Nat) : s.params.noisy (hitDescriptor fr.channel time (fr.bytes ++ [last])) = true ↔ noisy := by
    rw [hitDescriptor_eq, Params.noisy_iff]
  refine ⟨fun hacc => ?_, fun hacc hfault => ?_, fun hacc h1 h2 hn => ?_, fun hacc h1 h2 hn hslot => ?_⟩
  · rw [State.completeFrame_foreign (fr := { fr with bytes := fr.bytes ++ [last] }) hacc]
  · rw [hcomplete hacc, State.hitFrame, htake, hnow, hrec, if_pos hfault.symm]
    rfl
  · rw [hcomplete hacc, State.hitFrame, htake, hnow, hrec, if_neg (by omega)]
    dsimp only
    rw [hparams, if_pos ((hnoisy _).mpr hn)]
    rfl
  · rw [hcomplete hacc, State.hitFrame, htake, hnow, hrec, if_neg (by omega)]
    dsimp only
    rw [hparams, if_neg (mt (hnoisy _).mp hn), State.fillSlot]
    have hfree : ((s.setLaneState l .hunting).intake.lane l).slot = none := by
      rw [State.setLaneState, State.updLane_lane]
      exact hslot
    rw [State.serveLane, hfree, hitDescriptor_eq, State.setLaneState, State.updLane_updLane]

/-! ### The Merge -/

/-- The lane whose turn it is (R16). -/
theorem Intake.nextServed_eq {i : Intake} {l : Lane} {d : Descriptor} (hl : (i.lane l).slot = some d)
    (hturn : ∀ m, m ≠ l → (i.lane m).slot = none ∨ i.lastServed = m) : i.nextServed = some l := by
  unfold Intake.nextServed
  cases l
  · have hl : i.laneA.slot = some d := hl
    rw [hl]
    rcases hturn .b (by decide) with h | h
    · have h : i.laneB.slot = none := h
      rw [h]
      rfl
    · cases i.laneB.slot
      · rfl
      · rw [h]
        rfl
  · have hl : i.laneB.slot = some d := hl
    rw [hl]
    rcases hturn .a (by decide) with h | h
    · have h : i.laneA.slot = none := h
      rw [h]
      rfl
    · cases i.laneA.slot
      · rfl
      · rw [h]
        rfl

/-- Settles O10: the lane in turn is served, and its descriptor staged or dropped. -/
theorem mergeServes : Obligations.MergeServes := by
  intro l d s hs hl hturn
  refine (afterGrant_steady (·.mergeServe) hs).trans ?_
  congr 1
  rw [State.mergeServe, Intake.nextServed_eq hl hturn]
  dsimp only
  rw [State.serveLane, hl]
  dsimp only
  have hfifo : ((s.updLane l fun r => { r with slot := none }).updIntake fun i =>
      { i with lastServed := l }).intake.fifo = s.intake.fifo := by
    cases l <;> rfl
  unfold State.offerDescriptor
  rw [hfifo]
  by_cases hroom : s.intake.fifo.length < 32
  · rw [if_pos hroom, if_pos (show _ < Config.fifoCapacity from hroom)]
    rfl
  · rw [if_neg hroom, if_neg (show ¬_ < Config.fifoCapacity from hroom)]
    rfl

/-! ### The restart and settle counts -/

/-- Settles O11. -/
theorem restartAndSettleEnd : Obligations.RestartAndSettleEnd := by
  intro s hs
  refine ⟨fun hp hc => ?_, fun hp hc => ?_⟩
  · refine (afterGrant_steady (·.endRestart) hs).trans ?_
    rw [State.endRestart, if_pos ⟨hp, hc⟩]
    rfl
  · refine (afterGrant_steady (·.endSettle) hs).trans ?_
    rw [State.endSettle, if_pos ⟨hp, hc⟩]
    rfl

end Sys2Proof.Machine
end

section
/-! The statements about hits that join no event, and about the expiry of an event (2.2 to 2.4, 2.7). -/

namespace Sys2Proof.Machine

/-! ### Hits without a candidate -/

/-- `leastIndex` finds nothing where no element meets the test. -/
theorem leastIndex_eq_none {α : Type} {p : α → Bool} {f : α → Nat} {l : List α} (h : ∀ a ∈ l, p a = false) :
    leastIndex p f l = none := by
  cases hl : leastIndex p f l with
  | none => rfl
  | some q =>
    obtain ⟨a, ha, hp, -⟩ := leastIndex_some (v := q.2) hl
    exact absurd hp (by simp [h a (List.mem_of_getElem? ha)])

theorem State.candidateIndex_none {s : State} {d : Descriptor}
    (h : ∀ e ∈ s.former.openSet, isCandidate s.params.w d e = false) : s.candidateIndex d = none := by
  have hno : ∀ e ∈ s.former.openSet, e.candidate s.params.w d = false := fun e he =>
    (e.candidate_eq s.params.w d).trans (h e he)
  simp only [State.candidateIndex, leastIndex_eq_none hno, Option.map_none]

/-- A hit with no candidate that would open an expired event is late (R30). -/
theorem State.placeHit_late {s : State} {d : Descriptor} (hb : s.beforeCutoff d = true)
    (hno : ∀ e ∈ s.former.openSet, isCandidate s.params.w d e = false)
    (hlate : d.time + s.params.w + s.params.settle ≤ s.now) :
    s.placeHit d = s.updFormer fun f => { f with lates := bump f.lates } := by
  have hp : s.postRupture d = false := by simp [s.postRupture_eq, hb]
  rw [Nat.add_assoc] at hlate
  simp only [State.placeHit, hp, State.candidateIndex_none hno, Params.wait, hlate, if_true]
  rfl

/-- A hit with no candidate that is not late opens an event (R31). -/
theorem State.placeHit_opens {s : State} {d : Descriptor} (hb : s.beforeCutoff d = true)
    (hno : ∀ e ∈ s.former.openSet, isCandidate s.params.w d e = false)
    (hwait : s.now < d.time + s.params.w + s.params.settle) : s.placeHit d = s.openEvent d := by
  have hp : s.postRupture d = false := by simp [s.postRupture_eq, hb]
  rw [Nat.add_assoc, ← Nat.not_le] at hwait
  simp only [State.placeHit, hp, State.candidateIndex_none hno, Params.wait, hwait, if_false]
  rfl

theorem State.placeHit_postRupture {s : State} {d : Descriptor} (hb : s.beforeCutoff d = false) :
    s.placeHit d = s.updFormer fun f => { f with postRuptures := bump f.postRuptures } := by
  simp [State.placeHit, s.postRupture_eq, hb]

theorem State.newEvent_eq (s : State) (d : Descriptor) : s.newEvent d = s.eventOf d := by
  simp only [State.newEvent, State.eventOf, Params.wait, Monitor.context, Nat.add_assoc]

/-- With fewer than 4 events open none is closed early (R32). -/
theorem State.openEvent_room {s : State} {d : Descriptor} (h : s.former.openSet.length < 4) :
    s.openEvent d = s.updFormer fun f => { f with openSet := f.openSet ++ [s.eventOf d] } := by
  have hroom : ¬Config.openCapacity ≤ s.former.openSet.length := Nat.not_le.2 h
  simp only [State.openEvent, State.earlyClose, if_neg hroom, State.newEvent_eq]

/-- With 4 events open the event of earliest expiry is closed early first (R32). -/
theorem State.openEvent_full {s : State} {d : Descriptor} {i : Nat} {e : OpenEvent}
    (hlen : s.former.openSet.length = 4) (he : s.former.openSet[i]? = some e)
    (hleast : ∀ j, ∀ h : j < s.former.openSet.length, e.expiry < s.former.openSet[j].expiry ∨
      (e.expiry = s.former.openSet[j].expiry ∧ i ≤ j)) :
    s.openEvent d = (s.updFormer fun f => { f with earlies := bump f.earlies }).closed
      (s.former.openSet.eraseIdx i ++ [s.eventOf d]) { e with early := true } := by
  have hfull : Config.openCapacity ≤ s.former.openSet.length := Nat.le_of_eq hlen.symm
  have hfind : leastIndex (fun _ => true) (fun q => q.expiry) s.former.openSet = some (i, e.expiry) :=
    leastIndex_eq_some (f := fun q => q.expiry) he rfl fun j hj _ => hleast j hj
  have hclose : s.earlyClose =
      (s.updFormer fun f => { f with earlies := bump f.earlies }).closed
        (s.former.openSet.eraseIdx i) { e with early := true } := by
    simp only [State.earlyClose, if_pos hfull, hfind]
    exact (State.closeAt_eq_closed (s := s.updFormer _) true he).trans (by rw [Bool.or_true]; rfl)
  rw [State.openEvent, hclose, State.newEvent_eq]
  rfl

/-! ### The rupture drain after a hit that is discarded -/

/-- The test of the rupture drain reads the queue and the Open Event Set of the Event Former, the sweep, the
Arbiter and the run state alone. -/
theorem State.testRuptureDrain_discarded {s t : State} (h : RunLaw s) (hrun : t.run = s.run)
    (hsweep : t.sweep = s.sweep) (hop : t.arbiter.operation = s.arbiter.operation)
    (hqueue : t.former.queue = s.former.queue) (hopen : t.former.openSet = s.former.openSet) :
    t.testRuptureDrain = t := by
  rcases t.testRuptureDrain_cases with ⟨hfreezing, hrupture, hdrained, -⟩ | hsame
  · rw [hrun] at hfreezing hrupture
    have hsame : t.ruptureDrained = s.ruptureDrained := by
      simp only [State.ruptureDrained, State.backgroundBusy, hqueue, hopen, hsweep, hop]
    exact absurd hdrained (by simp [hsame, h.rupture hfreezing hrupture])
  · exact hsame

/-! ### The statements -/

/-- Settles O12: with room in the set the placement is R31 alone, and the new event keeps the drain from ending. -/
theorem hitOpensEvent : Obligations.HitOpensEvent := by
  intro d rest s hr hg hf hb hno hwait hroom
  rw [exec_hitPlacement_eq hr hg hf, State.placeHit_opens (s := s.updIntake _) hb hno hwait,
    State.openEvent_room (s := s.updIntake _) hroom,
    State.testRuptureDrain_unfinished]
  · rfl
  · exact .inl (List.append_ne_nil_of_right_ne_nil _ (List.cons_ne_nil _ _))

/-- Settles O15: a discarded hit leaves what the rupture drain waits for. -/
theorem hitDiscarded : Obligations.HitDiscarded := by
  intro d rest s hrun hr hg hf
  refine ⟨fun hb => ?_, fun hb hno hlate => ?_⟩
  · rw [exec_hitPlacement_eq hr hg hf, State.placeHit_postRupture (s := s.updIntake _) hb]
    exact congrArg Host.Outcome.next (State.testRuptureDrain_discarded hrun rfl rfl rfl rfl rfl)
  · rw [exec_hitPlacement_eq hr hg hf, State.placeHit_late (s := s.updIntake _) hb hno hlate]
    exact congrArg Host.Outcome.next (State.testRuptureDrain_discarded hrun rfl rfl rfl rfl rfl)

/-- Settles O16: the early close leaves an entry in the queue, so the drain does not end. -/
theorem earlyCloseMakesRoom : Obligations.EarlyCloseMakesRoom := by
  intro d rest i e s hr hg hf hb hno hwait hlen he hleast
  rw [exec_hitPlacement_eq hr hg hf, State.placeHit_opens (s := s.updIntake _) hb hno hwait,
    State.openEvent_full (s := s.updIntake _) hlen he hleast,
    State.testRuptureDrain_unfinished]
  · rfl
  · exact .inr (State.closed_queue_ne_nil _ _ _)

/-- The earliest-opened event that is due is the one that the Event Former closes (R33). -/
theorem State.dueEvent_eq {s : State} {i : Nat} {e : OpenEvent} (he : s.former.openSet[i]? = some e)
    (hdue : e.expiry ≤ s.now)
    (hbefore : ∀ j, ∀ h : j < s.former.openSet.length, j < i → s.now < s.former.openSet[j].expiry) :
    s.dueEvent = some i := by
  obtain ⟨hi, hget⟩ := List.getElem?_eq_some_iff.mp he
  refine List.findIdx?_eq_some_iff_getElem.mpr ⟨hi, by simp [hget, hdue], fun j hj => ?_⟩
  simp [hbefore j (Nat.lt_trans hj hi) hj]

/-- Settles O17: the event found is closed at its place; the queue then holds an entry, so no drain ends. -/
theorem expiredEventCloses : Obligations.ExpiredEventCloses := by
  intro i e s hr hg he hdue hbefore
  have hclose : s.expireEvent = s.closed (s.former.openSet.eraseIdx i) e := by
    simp only [State.expireEvent, State.dueEvent_eq he hdue hbefore, State.closeAt_eq_closed false he,
      Bool.or_false]
    exact State.testRuptureDrain_unfinished (.inr (State.closed_queue_ne_nil _ _ _))
  rw [← hclose]
  exact offering_eq _ hr hg

end Sys2Proof.Machine
end

section
/-! The statement about the Locator (chapter 3): the partners, the position they give, and the grid. -/

namespace Sys2Proof.Machine

/-! ### Neighbours -/

theorem State.accepted_iff (s : State) (c : Channel) :
    s.accepted c = true ↔ s.sensors[c].enabled = true ∧ s.intake.faults[c].faulted = false := by
  simp [State.accepted]

theorem Sensor.axialOf_iff (n ref : Sensor) :
    n.axialOf ref = true ↔ n.column = ref.column ∧
      (n.ring.val + 1 = ref.ring.val ∨ n.ring.val = ref.ring.val + 1) := by
  simp [Sensor.axialOf]

theorem Sensor.plusSideOf_iff (n ref : Sensor) :
    n.plusSideOf ref = true ↔ n.ring = ref.ring ∧ n.column.val = (ref.column.val + 1) % 16 := by
  simp [Sensor.plusSideOf]

/-- The k - 1 side seen from the neighbour: the reference stands on its k + 1 side, round the 16 (R53). -/
theorem Sensor.minusSideOf_iff (n ref : Sensor) :
    n.minusSideOf ref = true ↔ n.ring = ref.ring ∧ (n.column.val + 1) % 16 = ref.column.val := by
  have hround : n.column.val = (ref.column.val + 15) % 16 ↔ (n.column.val + 1) % 16 = ref.column.val := by
    have := n.column.isLt
    have := ref.column.isLt
    omega
  simp [Sensor.minusSideOf, hround]

/-- The two circumferential sides are 2 columns of 16 apart (R53). -/
theorem Sensor.not_plusSideOf_of_minus {n ref : Sensor} (h : (n.column.val + 1) % 16 = ref.column.val) :
    n.plusSideOf ref = false := by
  rw [Bool.eq_false_iff, Ne, Sensor.plusSideOf_iff]
  rintro ⟨-, hplus⟩
  omega

/-! ### The position -/

/-- The axial coordinate lies on the shell: at most half way to a partner on it (R58, R59). -/
theorem ParamLaw.axialPosition_le {p : Params} (h : ParamLaw p) (ref : Sensor) (time : Nat)
    (partner : Option (Sensor × Nat)) : p.axialPosition ref time partner ≤ p.length := by
  have hring (i : Fin 16) : p.ringPos[i] ≤ p.length := (h (.geometry (.ringPos i))).2
  have href := hring ref.ring
  unfold Params.axialPosition
  cases partner with
  | none => exact href
  | some q =>
    have hpartner := hring q.1.ring
    have hoffset := offset_le p.vel (absDiff p.ringPos[q.1.ring] p.ringPos[ref.ring]) (q.2 - time)
    unfold absDiff at hoffset ⊢
    simp only
    split <;> omega

theorem modSub_lt (a b : Nat) {m : Nat} (hm : 0 < m) : modSub a b m < m := by
  have := Int.emod_lt_of_pos ((a : Int) - b) (Int.natCast_pos.mpr hm)
  unfold modSub
  omega

/-- The circumferential coordinate lies on the shell (R60). -/
theorem ParamLaw.circPosition_lt {p : Params} (h : ParamLaw p) (ref : Sensor) (time : Nat)
    (partner : Option (Sensor × Nat)) : p.circPosition ref time partner < p.circ := by
  have hcirc : 100 ≤ p.circ := (h (.geometry .circ)).1
  have hpos : 0 < p.circ := by omega
  have hcol : p.colPos[ref.column] ≤ p.circ - 1 := (h (.geometry (.colPos ref.column))).2
  unfold Params.circPosition
  cases partner with
  | none => exact Nat.lt_of_le_pred hpos hcol
  | some q =>
    simp only
    split
    · exact Nat.mod_lt _ hpos
    · exact modSub_lt _ _ hpos

/-- A position on the shell has its cell in the grid (R50, R62). -/
theorem Params.cellOf_inGrid {p : Params} (hcell : 0 < p.cell) (hlength : 0 < p.length) (z : Nat) {x : Nat}
    (hx : x < p.circ) : p.inGrid (p.cellOf z x) = true := by
  have haxial : 0 < p.na := Nat.div_pos (by omega) hcell
  have hcirc : p.nc = (p.circ - 1) / p.cell + 1 := by
    rw [← Nat.add_div_right _ hcell]
    unfold Params.nc ceilDiv
    congr 1
    omega
  have hcolumn : x / p.cell ≤ (p.circ - 1) / p.cell := Nat.div_le_div_right (by omega)
  have hin : min (z / p.cell) (p.na - 1) < p.na ∧ x / p.cell < p.nc := by omega
  exact (Bool.and_eq_true _ _).mpr ⟨decide_eq_true hin.1, decide_eq_true hin.2⟩

/-! ### The statement -/

/-- With the partner ahead z lies the offset up from the reference's ring, and else the offset down (R59). -/
theorem Params.axialPosition_some (p : Params) (ref sensor : Sensor) (first time : Nat) :
    (p.ringPos[ref.ring] < p.ringPos[sensor.ring] → p.axialPosition ref first (some (sensor, time)) =
      p.ringPos[ref.ring] + offset p.vel (p.ringPos[sensor.ring] - p.ringPos[ref.ring]) (time - first)) ∧
    (p.ringPos[sensor.ring] ≤ p.ringPos[ref.ring] → p.axialPosition ref first (some (sensor, time)) =
      p.ringPos[ref.ring] - offset p.vel (p.ringPos[ref.ring] - p.ringPos[sensor.ring]) (time - first)) := by
  refine ⟨fun h => ?_, fun h => ?_⟩
  · have hspan : absDiff p.ringPos[sensor.ring] p.ringPos[ref.ring] =
        p.ringPos[sensor.ring] - p.ringPos[ref.ring] := by
      unfold absDiff
      omega
    simp only [Params.axialPosition, if_pos h, hspan]
  · have hspan : absDiff p.ringPos[sensor.ring] p.ringPos[ref.ring] =
        p.ringPos[ref.ring] - p.ringPos[sensor.ring] := by
      unfold absDiff
      omega
    simp only [Params.axialPosition, if_neg (Nat.not_lt.2 h), hspan]

theorem Params.circPosition_plus {p : Params} {ref sensor : Sensor} (first time : Nat)
    (h : sensor.plusSideOf ref = true) : p.circPosition ref first (some (sensor, time)) =
      (p.colPos[ref.column] +
        offset p.vel (modSub p.colPos[sensor.column] p.colPos[ref.column] p.circ) (time - first)) % p.circ := by
  simp only [Params.circPosition, h, if_true]

theorem Params.circPosition_minus {p : Params} {ref sensor : Sensor} (first time : Nat)
    (h : sensor.plusSideOf ref = false) (hcirc : 0 < p.circ) :
    (p.circPosition ref first (some (sensor, time)) : Int) =
      ((p.colPos[ref.column] : Int) -
        offset p.vel (modSub p.colPos[ref.column] p.colPos[sensor.column] p.circ) (time - first)) % p.circ := by
  simp only [Params.circPosition, h, Bool.false_eq_true, if_false]
  exact Int.toNat_of_nonneg (Int.emod_nonneg _ (by omega))

/-- Settles O18: the partners are the earliest of the neighbours of each kind, the position goes by their sides, and
half an offset never leaves the shell. -/
theorem locationInsideGrid : Obligations.LocationInsideGrid := by
  intro s first rest hlaw p loc sensor ref qualifies axially plus minus off z x
  have hcirc : 100 ≤ p.circ := (hlaw (.geometry .circ)).1
  have hlength : 100 ≤ p.length := (hlaw (.geometry .length)).1
  have hcell : p.gridMin ≤ p.cell := (hlaw (.geometry .cell)).1
  have hgrid : 10 ≤ p.gridMin := Nat.le_max_left _ _
  have hz : loc.z ≤ p.length := ParamLaw.axialPosition_le hlaw _ _ _
  have hx : loc.x < p.circ := ParamLaw.circPosition_lt hlaw _ _ _
  have haxial : IsPartner rest axially (s.axialPartner ref rest) := earliest_isPartner rest _ fun d => by
    rw [Bool.and_eq_true, State.accepted_iff, Sensor.axialOf_iff]
  have hcircum : IsPartner rest (fun d => plus d ∨ minus d) (s.circPartner ref rest) :=
    earliest_isPartner rest _ fun d => by
      rw [Bool.and_eq_true, Bool.or_eq_true, State.accepted_iff, Sensor.plusSideOf_iff,
        Sensor.minusSideOf_iff, and_or_left]
  have hlocz : loc.z = p.axialPosition ref first.time
      ((s.axialPartner ref rest).map fun d => (sensor d, d.time)) := rfl
  have hlocx : loc.x = p.circPosition ref first.time
      ((s.circPartner ref rest).map fun d => (sensor d, d.time)) := rfl
  have hquality : loc.quality = qualityOf (s.axialPartner ref rest).isSome (s.circPartner ref rest).isSome := rfl
  refine ⟨⟨_, _, haxial, hcircum, ?quality, fun h => ?ring, fun d h => ?axial, fun h => ?column,
    fun d h => ⟨fun hplus => ?plus, fun hminus => ?minus⟩⟩, rfl, hz, hx,
    Params.cellOf_inGrid (by omega) (by omega) _ hx⟩
  case quality =>
    rw [hquality]
    cases s.axialPartner ref rest <;> cases s.circPartner ref rest <;> rfl
  case ring => rw [hlocz, h]; rfl
  case axial =>
    rw [hlocz, h]
    exact p.axialPosition_some ref (sensor d) first.time d.time
  case column => rw [hlocx, h]; rfl
  case plus =>
    obtain ⟨-, hside⟩ := hplus
    rw [hlocx, h]
    exact Params.circPosition_plus first.time d.time ((Sensor.plusSideOf_iff _ _).mpr hside)
  case minus =>
    obtain ⟨-, -, hside⟩ := hminus
    rw [hlocx, h]
    exact Params.circPosition_minus first.time d.time (Sensor.not_plusSideOf_of_minus hside) (by omega)

end Sys2Proof.Machine
end

section
/-! The statements about PLIN, the samples, the rupture latch and the sweep timer (1.2, chapter 4, 7.1, 9.6). -/

namespace Sys2Proof.Machine

/-! ### PLIN characters -/

theorem exec_plinHeader_steady (ch : Character) {s : State} (hs : s.steady = true) :
    exec (.plinHeader ch) s = .next (s.takePlinCharacter ch) :=
  afterGrant_steady (·.takePlinCharacter ch) hs

theorem exec_plinCharacterError_steady (ch : Character) {s : State} (hs : s.steady = true) :
    exec (.plinCharacterError ch) s = .next (s.takePlinCharacter ch) :=
  afterGrant_steady (·.takePlinCharacter ch) hs

theorem exec_plinDataCharacter_steady (ch : Character) {s : State} (hs : s.steady = true) :
    exec (.plinDataCharacter ch) s = .next (s.takePlinCharacter ch) := by
  show execPlinDataCharacter ch s = _
  rcases execPlinDataCharacter_cases ch s with ⟨hfold, -, -⟩ | ⟨-, h⟩
  · rw [(State.steady_iff.mp hs).2] at hfold
    cases hfold
  · rw [h]
    exact afterGrant_steady _ hs

theorem State.takePlinCharacter_data {ch : Character} {b : Byte} (h : Carries false b ch) (s : State) :
    s.takePlinCharacter ch = s.plinData b := by
  rw [State.takePlinCharacter, h.receive]
  rfl

/-- The number of fragments once a header has ended a frame in progress (R65). -/
def Plin.headerFragments (p : Plin) : Nat :=
  match p.state with
  | .accepting _ => bump p.fragments
  | _ => p.fragments

/-- Bits 7 and 6 of a byte name one of four kinds (Table 12-1). -/
theorem byte_kind (b : Byte) :
    b.toNat / 64 = 0 ∨ b.toNat / 64 = 1 ∨ b.toNat / 64 = 2 ∨ b.toNat / 64 = 3 := by
  have := b.isLt
  omega

/-- A good header, once the frame in progress is ended: the pressure kind, or another (R65). -/
theorem State.plinHeader_eq (s : State) (b : Byte) :
    s.plinHeader b = { s with plin :=
      if b.toNat / 64 = 3 then { s.plin with state := .accepting [], fragments := s.plin.headerFragments }
      else { s.plin with
        state := .ignoring, fragments := s.plin.headerFragments, malformeds := bump s.plin.malformeds } } := by
  have hexamine (u : State) : u.examinePlinHeader b =
      if b.toNat / 64 = 3 then u.setPlinState (.accepting [])
      else u.updPlin fun p => { p with state := .ignoring, malformeds := bump p.malformeds } := by
    unfold State.examinePlinHeader
    rw [headerKind_eq]
    rcases byte_kind b with h | h | h | h <;> rw [h] <;> rfl
  unfold State.plinHeader Plin.headerFragments
  cases hst : s.plin.state <;> simp only [hexamine] <;> split <;> rfl

/-- Settles O19: a header by its kind, a data character by the receive state, an error, and no character. -/
theorem plinCharacterTaken : Obligations.PlinCharacterTaken := by
  intro ch s hs
  refine ⟨fun b hch => ?header, fun b hch => ⟨fun bytes hst hlen => ?append, fun hst => ?ignore⟩, fun hch => ?error,
    fun hidle => ?idle⟩
  case header =>
    have htake : s.takePlinCharacter ch = s.plinHeader b := by
      rw [State.takePlinCharacter, hch.receive]
      rfl
    rw [exec_plinHeader_steady ch hs, htake, State.plinHeader_eq]
    rcases byte_kind b with h | h | h | h <;> rw [h] <;> rfl
  case append =>
    have hroom : (bytes ++ [b]).length < 3 := by
      rw [List.length_append, List.length_singleton]
      omega
    rw [exec_plinDataCharacter_steady ch hs, State.takePlinCharacter_data hch, State.plinData, hst]
    dsimp only
    rw [if_pos hroom]
    rfl
  case ignore =>
    rw [exec_plinDataCharacter_steady ch hs, State.takePlinCharacter_data hch, State.plinData]
    rcases hst with hst | hst <;> rw [hst]
  case error =>
    rw [exec_plinCharacterError_steady ch hs, State.takePlinCharacter, hch.receive]
    rfl
  case idle =>
    have hsame : s.takePlinCharacter ch = s := by rw [State.takePlinCharacter, receive_idle hidle]
    rw [exec_plinHeader_steady ch hs, exec_plinDataCharacter_steady ch hs, exec_plinCharacterError_steady ch hs, hsame]
    exact ⟨rfl, rfl, rfl⟩

/-! ### Samples -/

/-- The third data character completes a sample (R65). -/
theorem State.takePlinCharacter_sample {s : State} {ch : Character} {low high flags : Byte}
    (hch : Carries false flags ch) (hst : s.plin.state = .accepting [low, high]) :
    s.takePlinCharacter ch = (s.setPlinState .hunting).takeSample (low.toNat + 256 * high.toNat) flags := by
  rw [State.takePlinCharacter_data hch, State.plinData, hst, ← bytesToNat_pair]
  rfl

/-- Settles O20: an invalid sample is dropped, and a valid one that is no rupture goes by its phase alone. -/
theorem sampleTaken : Obligations.SampleTaken := by
  intro ch low high flags s hs hch hst p hunting
  rw [exec_plinDataCharacter_steady ch hs, State.takePlinCharacter_sample hch hst]
  refine ⟨fun hinvalid => ?_, fun hvalid hcalm => ?_⟩
  · rw [State.takeSample, hinvalid]
    rfl
  · have hno : ¬(s.setPlinState .hunting).ruptures p = true := by
      rw [State.ruptures_iff]
      rintro ⟨hrun, hcutoff, q, hq, hfloor, hdrop⟩
      have hrun : s.run.state ≠ .setup := hrun
      have hcutoff : s.monitor.cutoff = none := hcutoff
      have hq : s.monitor.current = some q := hq
      have hfloor : s.params.ruptureFloor ≤ q := hfloor
      have hdrop : p + s.params.ruptureDrop ≤ q := hdrop
      rcases hcalm with h | h | h | ⟨r, hr, h⟩
      · exact hrun h
      · simp [hcutoff] at h
      · simp [hq] at h
      · obtain rfl : q = r := by simpa [hq] using hr
        omega
    rw [State.takeSample, if_pos hvalid, if_neg hno]
    rfl

/-! ### The rupture latch -/

/-- The events that a filter drops are the ones that do not meet its test. -/
theorem length_filter_late {α : Type} (l : List α) (f : α → Nat) (cutoff : Nat) :
    (l.filter fun a => decide (cutoff < f a)).length =
      l.length - (l.filter fun a => decide (f a ≤ cutoff)).length := by
  have hsplit := List.length_eq_countP_add_countP (l := l) fun a => decide (f a ≤ cutoff)
  simp only [decide_eq_true_eq, Nat.not_le, List.countP_eq_length_filter] at hsplit
  omega

/-- The Event Former after the purge, in the terms of the statements (R38 to R40). -/
theorem Former.rupturePurge_eq (f : Former) (cutoff : Nat) :
    f.rupturePurge cutoff =
      let openSet := f.openSet.filter fun e => decide (e.first.time ≤ cutoff)
      let queue := (f.queue.filter fun e => decide (e.firstHit ≤ cutoff)).map fun e => { e with held := false }
      { f with
        openSet := openSet
        queue := queue
        aborteds := min 65535 (f.aborteds + (f.openSet.length - openSet.length))
        eventDrops := min 65535 (f.eventDrops + (f.queue.length - queue.length)) } := by
  simp only [Former.rupturePurge, satAdd, length_filter_late, List.length_map]

/-- A rupture drain begun in FREEZING ends at once where nothing is left (R164). -/
theorem State.testRuptureDrain_freezing {s : State} (h : s.run = { state := .freezing, flavour := some .rupture }) :
    s.testRuptureDrain = { s with
      run := { state := if s.ruptureDrained then .frozen else .freezing, flavour := some .rupture }
      latches := { s.latches with frozenReached := s.latches.frozenReached || s.ruptureDrained } } := by
  unfold State.testRuptureDrain
  cases hd : s.ruptureDrained
  · rw [if_neg (fun hall => by simp at hall)]
    simp [← h]
  · rw [if_pos (by simp [h])]
    simp [State.enterFrozen, h]

/-- Settles O22: the latch is one event, and the sample is then taken by its phase rule. -/
theorem ruptureLatched : Obligations.RuptureLatched := by
  intro ch low high flags q s hr hg hch hst hvalid hrun hcutoff hq hfloor hdrop p openSet queue drained
  have hruptures : (s.setPlinState .hunting).ruptures p = true :=
    (State.ruptures_iff _ _).mpr ⟨hrun, hcutoff, q, hq, hfloor, hdrop⟩
  have hexec : exec (.plinDataCharacter ch) s = .next (s.takePlinCharacter ch) := by
    rcases hg with hg | hg
    · exact exec_plinDataCharacter_steady ch (State.steady_iff.mpr ⟨hr, hg⟩)
    · have hlatch : s.latchesRupture ch = true :=
        (s.latchesRupture_iff ch).mpr ⟨low, high, flags, q, hch, hst, hvalid, hrun, hcutoff, hq, hfloor, hdrop⟩
      show execPlinDataCharacter ch s = _
      rw [execPlinDataCharacter, if_pos ⟨hg, hlatch⟩, whileReleased_released _ hr]
  rw [hexec, State.takePlinCharacter_sample hch hst, State.takeSample, if_pos hvalid, if_pos hruptures,
    State.latchRupture, Former.rupturePurge_eq, State.testRuptureDrain_freezing rfl]
  rfl

/-! ### The sweep timer -/

theorem State.expireSweepTimer_due {s : State} {x : Timer} (hx : s.sweep.timer = some x) (hdue : x.interval ≤ x.elapsed) :
    s.expireSweepTimer = s.owePass.loadSweepTimer := by
  have h : s.sweepDue = true := by simp [State.sweepDue, hx, hdue]
  rw [State.expireSweepTimer, if_pos h]

theorem State.owePass_room {s : State} (h : s.sweep.backlog ≤ 14) :
    s.owePass = s.updSweep fun w => { w with backlog := w.backlog + 1 } := if_pos (Nat.lt_succ_of_le h)

theorem State.owePass_full {s : State} (h : 15 ≤ s.sweep.backlog) :
    s.owePass = (s.updSweep fun w => { w with lost := bump w.lost }).updLatches fun l => { l with sweepLost := true } :=
  if_neg (Nat.not_lt.mpr h)

/-- What a grant leaves of the Sweep Scheduler, and the latches: the timer, the passes owed and the losses. -/
theorem State.grantOwed_owed (s : State) :
    s.grantOwed.sweep.timer = s.sweep.timer ∧ s.grantOwed.sweep.backlog = s.sweep.backlog ∧
      s.grantOwed.sweep.lost = s.sweep.lost ∧ s.grantOwed.latches = s.latches := by
  cases hg : s.grantChoice with
  | none => rw [State.grantOwed_none hg]; exact ⟨rfl, rfl, rfl, rfl⟩
  | some r =>
    rw [State.grantOwed_some hg]
    cases r with
    | port =>
      obtain ⟨hold, work, h⟩ := State.portWork_of_choice hg
      rw [State.grant_port h]
      exact ⟨rfl, rfl, rfl, rfl⟩
    | fold =>
      obtain ⟨_, _, _, _, -, -, h⟩ := State.grant_fold hg
      rw [h]
      exact ⟨rfl, rfl, rfl, rfl⟩
    | sweep =>
      obtain ⟨_, _, _, _, _, -, h⟩ := s.grant_sweep
      rw [h]
      exact ⟨rfl, rfl, rfl, rfl⟩

/-- An expiry that finds fewer than 15 passes owed, also after a grant, owes one more and loses none (R129). -/
theorem exec_sweepTimerExpiry_owed {s : State} {x : Timer} (hr : s.resetAsserted = false)
    (hx : s.sweep.timer = some x) (hdue : x.interval ≤ x.elapsed) (hroom : s.sweep.backlog ≤ 14) :
    ∃ u, exec .sweepTimerExpiry s = .next u ∧ u.sweep.backlog = s.sweep.backlog + 1 ∧
      u.sweep.lost = s.sweep.lost ∧ u.latches.sweepLost = s.latches.sweepLost := by
  obtain ⟨htimer, hbacklog, hlost, hlatches⟩ := s.grantOwed_owed
  refine ⟨_, whileReleased_released _ hr, ?_⟩
  dsimp only
  rw [State.expireSweepTimer_due (htimer.trans hx) hdue, State.owePass_room (Nat.le_trans (Nat.le_of_eq hbacklog) hroom)]
  exact ⟨congrArg (· + 1) hbacklog, hlost, congrArg Latches.sweepLost hlatches⟩

/-- The end of a pass without STOP or ENGINE RESET waiting lowers the backlog, and leaves the timer, the losses and
their latch. -/
theorem exec_passEnd {s : State} {op : Operation} (hr : s.resetAsserted = false)
    (ho : s.arbiter.operation = some op) (hop : op.requester = .sweep) (hends : op.endsPass = true)
    (hq : s.port.request = none) :
    ∃ t, exec .operationCompletion s = .next t ∧ t.resetAsserted = false ∧
      t.sweep = { s.sweep with backlog := s.sweep.backlog - 1 } ∧ t.latches.sweepLost = s.latches.sweepLost := by
  have hne : op.requester ≠ .port := by
    rw [hop]
    nofun
  have hnone (hold : Bool) (stage : RequestStage) (h : s.port.request = some { hold := hold, stage := stage }) :
      stage ≠ .stop ∧ stage ≠ .engineReset := by
    rw [hq] at h
    cases h
  refine ⟨_, exec_complete_background hr ho hne hnone, ?_, ?_, ?_⟩
  · rw [State.testRuptureDrain_frame, State.testRequestedDrain_frame]
    exact hr
  · rw [State.testDrains_sweep]
    simp [State.finished, hends, State.updArbiter]
  · have hdrain (u : State) : u.testRequestedDrain.testRuptureDrain.latches.sweepLost = u.latches.sweepLost := by
      rcases u.testRequestedDrain.testRuptureDrain_cases with ⟨-, -, -, h⟩ | h <;>
        rcases u.testRequestedDrain_cases with ⟨-, -, -, h'⟩ | h' <;> rw [h, h'] <;> rfl
    exact hdrain _

/-- Settles O23. -/
theorem sweepTimerExpires : Obligations.SweepTimerExpires := by
  intro x s hs hx hdue timer
  have hr := (State.steady_iff.mp hs).1
  have hexec : exec .sweepTimerExpiry s = .next s.owePass.loadSweepTimer :=
    (afterGrant_steady (·.expireSweepTimer) hs).trans (congrArg _ (State.expireSweepTimer_due hx hdue))
  have hlost (h : 15 ≤ s.sweep.backlog) : exec .sweepTimerExpiry s = .next
      { s with
        sweep := { s.sweep with timer := timer, lost := bump s.sweep.lost }
        latches := { s.latches with sweepLost := true } } := by
    rw [hexec, State.owePass_full h]
    rfl
  refine ⟨fun h => ?_, hlost, fun op h15 ho hop hends hq => ⟨?_, ?_⟩⟩
  · rw [hexec, State.owePass_room h]
    rfl
  · obtain ⟨u, hu, -, hsweep, hlatch⟩ := exec_passEnd (s := { s with
        sweep := { s.sweep with timer := timer, lost := bump s.sweep.lost }
        latches := { s.latches with sweepLost := true } }) hr ho hop hends hq
    refine ⟨_, u, hlost (Nat.le_of_eq h15.symm), hu, ?_, ?_, hlatch⟩
    · rw [hsweep]
      exact congrArg (· - 1) h15
    · rw [hsweep]
  · obtain ⟨t, ht, htr, hsweep, hlatch⟩ := exec_passEnd hr ho hop hends hq
    have hback : t.sweep.backlog = 14 := by rw [hsweep, h15]
    obtain ⟨u, hu, hbacklog, hulost, hulatch⟩ := exec_sweepTimerExpiry_owed htr
      (by rw [hsweep]; exact hx) hdue (Nat.le_of_eq hback)
    exact ⟨t, u, ht, hu, by rw [hbacklog, hback], by rw [hulost, hsweep], hulatch.trans hlatch⟩

end Sys2Proof.Machine
end

section
/-! The statements about table requests from their frame to their response (5.6 to 5.8, 6.8, 6.9, 11.2, 11.7). -/

namespace Sys2Proof.Machine

/-! ### From frame to response -/

/-- What table work leaves, once its request is granted and completed (R144, R150). -/
def WorkResult.granted (result : WorkResult) (hold : Bool) : State :=
  result.state.granted hold result.status result.payload

/-- A request that waits where PORT is chosen is granted and completed with what its work makes of that state. -/
theorem exec_grant_complete {w : State} {hold : Bool} {work : TableWork} (hr : w.resetAsserted = false)
    (hb : w.arbiter.breaking = false) (hq : w.port.request = some { hold := hold, stage := .waiting work })
    (hg : w.grantChoice = some .port) :
    ∃ g, exec .portGrant w = .next g ∧
      exec .operationCompletion g = .next ((w.performWork work).granted hold) := by
  have hstate := w.performWork_state work
  obtain ⟨g, hgrant, hcomplete⟩ := granted_of_work (w := w) (hold := hold) (work := work)
    (status := (w.performWork work).status) (payload := (w.performWork work).payload)
    (w.performWork work).state.table (w.performWork work).state.zones (w.performWork work).state.params
    (w.performWork work).state.sensors { w.intake with faults := (w.performWork work).state.intake.faults }
    hr hb hq hg fun p a => by
      rw [State.performWork_port_arbiter]
      dsimp only at hstate
      rw [hstate]
  refine ⟨g, hgrant, hcomplete.trans ?_⟩
  rw [← hstate]
  rfl

/-- A table request that waits for its work is served by what the work makes of the state at the grant. -/
theorem servedAtGrant {i : Instr} {f : Frame} {s : State} {work : TableWork} {answer : State → State → Prop}
    (he : exec i s = .next (s.asked f work)) (hanswer : ∀ w, answer w ((w.performWork work).granted f.hold)) :
    ServedAtGrant i f s answer := by
  refine ⟨work, he, State.asked_grantChoice, fun w hr hb hq hg => ?_⟩
  obtain ⟨g, hgrant, hcomplete⟩ := exec_grant_complete hr hb hq hg
  exact ⟨g, _, hgrant, hcomplete, hanswer w⟩

/-- A request for one cell waits with its work where its reference resolves (R188). -/
theorem State.awaitCell_asked {s : State} {f : Frame} {k : CellKey} (hk : s.resolveRef f = some k)
    (work : CellKey → TableWork) :
    (s.clockFiller (3 + f.payload.length)).awaitCell f work = s.asked f (work k) :=
  State.awaitCell_some hk _

/-! ### Cell references -/

/-- A ratio rounded up is positive where neither number is 0. -/
theorem ceilDiv_pos {a b : Nat} (ha : 0 < a) (hb : 0 < b) : 0 < ceilDiv a b := Nat.div_pos (by omega) hb

theorem ParamLaw.nc_pos {p : Params} (h : ParamLaw p) : 0 < p.nc := by
  have hcirc : 100 ≤ p.circ := (h (.geometry .circ)).1
  have hcell : p.gridMin ≤ p.cell := (h (.geometry .cell)).1
  have hgrid : 10 ≤ p.gridMin := Nat.le_max_left _ _
  exact ceilDiv_pos (by omega) (by omega)

theorem Params.inGrid_iff (p : Params) (k : CellKey) : p.inGrid k = true ↔ k.axial < p.na ∧ k.circ < p.nc := by
  simp [Params.inGrid]

theorem State.resolveRef_long {s : State} {f : Frame} (h : f.long = true) :
    s.resolveRef f = if f.byteAt 0 < s.params.na ∧ f.byteAt 1 < s.params.nc then
      some { axial := f.byteAt 0, circ := f.byteAt 1 } else none := by
  simp only [State.resolveRef, h, if_true, Params.resolveLong, Params.inGrid_iff]

theorem State.resolveRef_short {s : State} {f : Frame} (h : f.long = false) :
    s.resolveRef f = if s.port.view.axial + f.byteAt 0 / 16 < s.params.na then
      some { axial := s.port.view.axial + f.byteAt 0 / 16
             circ := (s.port.view.circ + f.byteAt 0 % 16) % s.params.nc } else none := by
  simp only [State.resolveRef, h, Bool.false_eq_true, if_false, Params.resolveShort]

/-- Settles O35: the two forms, and the grid that holds what either resolves to. -/
theorem referenceResolves : Obligations.ReferenceResolves := by
  intro f s hlaw a c axial
  refine ⟨fun hl => ⟨fun ha hc => ?_, fun hout => ?_⟩, fun hl => ⟨fun ha => ?_, fun ha => ?_⟩, fun k hk => ?_⟩
  · rw [State.resolveRef_long hl, if_pos ⟨ha, hc⟩]
  · rw [State.resolveRef_long hl, if_neg (by omega)]
  · rw [State.resolveRef_short hl, if_pos ha]
  · rw [State.resolveRef_short hl, if_neg (Nat.not_lt.mpr ha)]
  · rw [Params.inGrid_iff]
    cases hl : f.long
    · rw [State.resolveRef_short hl] at hk
      split at hk
      · next ha =>
        cases hk
        exact ⟨ha, Nat.mod_lt _ (ParamLaw.nc_pos hlaw)⟩
      · cases hk
    · rw [State.resolveRef_long hl] at hk
      split at hk
      · next hin =>
        cases hk
        exact hin
      · cases hk

/-! ### Key order -/

theorem CellKey.before_iff (a b : CellKey) :
    a.before b = true ↔ a.axial < b.axial ∨ (a.axial = b.axial ∧ a.circ < b.circ) := by
  simp [CellKey.before]

/-- Of two different keys one comes first. -/
theorem CellKey.before_of_not {a b : CellKey} (h : a.before b = false) (hne : a ≠ b) : b.before a = true := by
  rw [Bool.eq_false_iff, Ne, CellKey.before_iff] at h
  rw [CellKey.before_iff]
  have hdiff : ¬(a.axial = b.axial ∧ a.circ = b.circ) := fun ⟨h1, h2⟩ => hne (by cases a; cases b; simp_all)
  omega

theorem CellKey.before_trans {a b c : CellKey} (h : a.before b = true) (g : b.before c = true) : a.before c = true := by
  rw [CellKey.before_iff] at *
  omega

theorem insertByKey_perm (r : SourceRecord) (l : List SourceRecord) : (insertByKey r l).Perm (r :: l) := by
  induction l with
  | nil => exact .refl _
  | cons q l ih =>
    unfold insertByKey
    split
    · exact .refl _
    · exact (ih.cons q).trans (.swap r q l)

/-- A record with a key of its own takes its place in key order. -/
theorem insertByKey_pairwise {r : SourceRecord} {l : List SourceRecord}
    (hl : l.Pairwise fun a b => a.key.before b.key = true) (hr : ∀ q ∈ l, r.key ≠ q.key) :
    (insertByKey r l).Pairwise fun a b => a.key.before b.key = true := by
  induction l with
  | nil => exact List.pairwise_singleton _ _
  | cons q l ih =>
    obtain ⟨hq, hrest⟩ := List.pairwise_cons.mp hl
    obtain ⟨hne, hrl⟩ := List.forall_mem_cons.mp hr
    unfold insertByKey
    split
    · next hbefore =>
      exact List.pairwise_cons.mpr ⟨List.forall_mem_cons.mpr
        ⟨hbefore, fun m hm => CellKey.before_trans hbefore (hq m hm)⟩, hl⟩
    · next hafter =>
      refine List.pairwise_cons.mpr ⟨fun m hm => ?_, ih hrest hrl⟩
      rcases List.mem_cons.mp ((insertByKey_perm r l).mem_iff.mp hm) with rfl | hm
      · exact CellKey.before_of_not (Bool.eq_false_iff.mpr hafter) hne
      · exact hq m hm

theorem foldr_insertByKey_perm (l : List SourceRecord) : (l.foldr insertByKey []).Perm l := by
  induction l with
  | nil => exact .refl _
  | cons r l ih => exact (insertByKey_perm r _).trans (ih.cons r)

/-- Records with different keys are brought into key order (R101). -/
theorem SourceTable.byKey_pairwise {t : SourceTable} (h : (t.slots.map (·.2.key)).Nodup) :
    t.byKey.Pairwise fun a b => a.key.before b.key = true := by
  have hkeys : (t.slots.map (·.2)).Pairwise fun a b => a.key ≠ b.key := by
    rw [List.Nodup, List.pairwise_map] at h
    exact List.pairwise_map.mpr h
  unfold SourceTable.byKey
  generalize t.slots.map (·.2) = l at hkeys
  induction l with
  | nil => exact List.Pairwise.nil
  | cons r l ih =>
    obtain ⟨hr, hl⟩ := List.pairwise_cons.mp hkeys
    exact insertByKey_pairwise (ih hl) fun q hq => hr q ((foldr_insertByKey_perm l).mem_iff.mp hq)

/-! ### Reads -/

/-- Work on the record of a cell that is not live answers NOT_FOUND, and changes nothing. -/
theorem State.onRecord_none {s : State} {k : CellKey} (h : s.table.find? k = none)
    (work : Nat → SourceRecord → WorkResult) : s.onRecord k work = s.answer .notFound .none := by
  rw [State.onRecord, h]

theorem State.onRecord_some {s : State} {k : CellKey} {slot : Nat} {r : SourceRecord}
    (h : s.table.find? k = some (slot, r)) (work : Nat → SourceRecord → WorkResult) :
    s.onRecord k work = work slot r := by
  rw [State.onRecord, h]

theorem State.answer_granted (s : State) (hold : Bool) (status : Status) (payload : Payload) :
    (s.answer status payload).granted hold = s.granted hold status payload := rfl

/-- The filter of SCAN, in the terms of the statements (R189). -/
theorem SourceRecord.matchesScan_eq (r : SourceRecord) (start : CellKey) (minGrade : Nat) (nascent : Bool) :
    r.matchesScan start minGrade nascent =
      (decide (start.axial < r.key.axial ∨ (start.axial = r.key.axial ∧ start.circ ≤ r.key.circ)) &&
        decide (minGrade ≤ r.grade) && (r.tracked || nascent)) := by
  have horder : (!r.key.before start) =
      decide (start.axial < r.key.axial ∨ (start.axial = r.key.axial ∧ start.circ ≤ r.key.circ)) := by
    rw [Bool.eq_iff_iff, Bool.not_eq_true', Bool.eq_false_iff, Ne, CellKey.before_iff, decide_eq_true_iff]
    omega
  rw [SourceRecord.matchesScan, horder]

/-- The report flag is cleared in exactly the records that are shown (R190). -/
theorem collect_eq (shown : List SourceRecord) (r : SourceRecord) :
    (if (shown.any fun q => q.key == r.key) = true then { r with report := false } else r) =
      if ∃ q ∈ shown, q.key = r.key then { r with report := false } else r := by
  simp only [List.any_eq_true, beq_iff_eq]

/-- Settles O36: each read waits with its work, which reads the table in key order. -/
theorem tableReadsServed : Obligations.TableReadsServed := by
  refine ⟨fun t => ⟨foldr_insertByKey_perm _, fun h => (t.byKey_pairwise h).imp fun hab => (CellKey.before_iff _ _).mp hab⟩,
    fun f s hr => ⟨fun hf k hk => ?lookup, fun hf k hk hgrade => ?scan, fun hf => ?changes⟩⟩
  case lookup =>
    refine servedAtGrant (work := .lookup k) ((takeRequest_content hr hf).trans
      (congrArg _ (State.awaitCell_asked hk .lookup))) fun w => ⟨fun slot r hfind => ?_, fun hfind => ?_⟩
    · rw [State.performWork, State.workLookup, State.onRecord_some hfind, State.answer_granted]
    · rw [State.performWork, State.workLookup, State.onRecord_none hfind, State.answer_granted]
  case scan =>
    refine servedAtGrant (work := .scan k (f.byteAt f.refBytes) ((f.payload.getD (f.refBytes + 1) 0).getLsbD 0))
      ((takeRequest_content hr hf).trans (congrArg _ ?_)) fun w => ?_
    · rw [State.requestScan, if_neg (Nat.not_lt.mpr hgrade)]
      exact State.awaitCell_asked hk _
    · simp only [State.performWork, State.workScan, State.answer_granted, SourceRecord.matchesScan_eq]
      rfl
  case changes =>
    refine servedAtGrant (work := .changes) ((takeRequest_content hr hf).trans rfl) fun w => ?_
    dsimp only
    simp only [← collect_eq]
    rfl

/-! ### Seeds -/

theorem SourceTable.makeRoom_free {t : SourceTable} {slot : Nat} (h : t.freeSlot = some slot) :
    t.makeRoom = some { table := t, slot := slot, evicts := false } := by
  simp only [SourceTable.makeRoom, h]

theorem SourceTable.makeRoom_full {t : SourceTable} (h : t.freeSlot = none) :
    t.makeRoom = (chooseVictim t.slots).map fun v => { table := t.remove v.1, slot := v.1, evicts := true } := by
  simp only [SourceTable.makeRoom, h]
  cases chooseVictim t.slots <;> rfl

/-- SEED of a key that is not live, where there is no room for it (R96). -/
theorem State.workSeed_full {s : State} {k : CellKey} (h : s.table.find? k = none) (hroom : s.table.makeRoom = none)
    (label : Nat) (home : Channel) : s.workSeed k label home = s.answer .full .none := by
  simp only [State.workSeed, h, hroom]

/-- SEED of a key that is not live, in the room made for it (R96). -/
theorem State.workSeed_room {s : State} {k : CellKey} {room : Room} (h : s.table.find? k = none)
    (hroom : s.table.makeRoom = some room) (label : Nat) (home : Channel) :
    s.workSeed k label home =
      { state := { s with table :=
          (room.table.countEviction room.evicts).put room.slot (SourceRecord.ofSeed k label home) }
        status := .ok
        payload := .record (SourceRecord.ofSeed k label home) } := by
  simp only [State.workSeed, h, hroom]

theorem channelOf_eq {n : Nat} (h : n < 64) : channelOf n = some ⟨n, h⟩ := dif_pos h

/-- Settles O37: the home channel is in range, so SEED waits with its work, which makes room as a fold does. -/
theorem seedServed : Obligations.SeedServed := by
  intro f k s hr hf hk hhome label r
  refine servedAtGrant (work := .seed k label ⟨f.byteAt (f.refBytes + 2), hhome⟩)
    ((takeRequest_content hr hf).trans (congrArg _ ?_)) fun w hlaw => ⟨fun ⟨⟨slot, q⟩, hq, hkey⟩ => ?_, fun hnew =>
      ⟨fun slot hfree => ?_, fun hfull => ⟨fun slot v hvictim => ?_, fun hnone => ?_⟩⟩⟩
  · rw [State.requestSeed, channelOf_eq hhome, bytesToNat_drop_take_two]
    exact State.awaitCell_asked hk _
  · have hfind : w.table.find? k = some (slot, q) := hkey ▸ SourceTable.find?_of_mem hlaw.distinct hq
    rw [State.performWork, State.workSeed, hfind]
    rfl
  · have hroom := SourceTable.makeRoom_free (SourceTable.freeSlot_of_lowestFree hlaw.rising hfree)
    rw [State.performWork, State.workSeed_room (SourceTable.find?_eq_none hnew) hroom]
    rfl
  · have hroom := SourceTable.makeRoom_full (SourceTable.freeSlot_of_full hlaw.rising hfull)
    rw [SourceTable.chooseVictim_of_victim hvictim] at hroom
    rw [State.performWork, State.workSeed_room (SourceTable.find?_eq_none hnew) hroom]
    rfl
  · have hroom := SourceTable.makeRoom_full (SourceTable.freeSlot_of_full hlaw.rising hfull)
    rw [chooseVictim_eq_none hnone] at hroom
    rw [State.performWork, State.workSeed_full (SourceTable.find?_eq_none hnew) hroom, State.answer_granted]

/-! ### Marks -/

/-- What two bits of an action byte do to a flag (Table 12-5). -/
theorem markAction_apply {n : Nat} (h : n % 4 ≠ 3) :
    ∃ a, markAction n = some a ∧ (a == .clear) = decide (n % 4 = 2) ∧
      ∀ flag, a.apply flag = if n % 4 = 0 then flag else decide (n % 4 = 1) := by
  have hcases : n % 4 = 0 ∨ n % 4 = 1 ∨ n % 4 = 2 := by omega
  unfold markAction
  rcases hcases with h | h | h <;> rw [h]
  · exact ⟨.keep, rfl, rfl, fun _ => rfl⟩
  · exact ⟨.set, rfl, rfl, fun _ => rfl⟩
  · exact ⟨.clear, rfl, rfl, fun _ => rfl⟩

/-- Settles O38: both actions are named, and the record takes them in its grant. -/
theorem markServed : Obligations.MarkServed := by
  intro f k s hr hf hk actions hmuted hpinned apply
  obtain ⟨muted, hm, hmclear, hmapply⟩ := markAction_apply hmuted
  obtain ⟨pinned, hp, -, hpapply⟩ := markAction_apply hpinned
  refine servedAtGrant (work := .mark k muted pinned) ((takeRequest_content hr hf).trans (congrArg _ ?_)) fun w =>
    ⟨fun hfind => ?_, fun slot r hfind => ?_⟩
  · rw [State.requestMark, hm, hp]
    exact State.awaitCell_asked hk _
  · rw [State.performWork, State.workMark, State.onRecord_none hfind, State.answer_granted]
  · rw [State.performWork, State.workMark, State.onRecord_some hfind]
    dsimp only
    rw [hmapply, hpapply, hmclear]
    have hunmutes : (r.muted && decide (f.byteAt f.refBytes % 4 = 2)) =
        decide (r.muted = true ∧ f.byteAt f.refBytes % 4 = 2) := by
      rw [Bool.decide_and, Bool.decide_eq_true]
    rw [hunmutes, Bool.decide_and (_ ∧ _) (0 < r.grade)]
    by_cases h : r.muted = true ∧ f.byteAt f.refBytes % 4 = 2
    · rw [if_pos (decide_eq_true h), if_pos h]
      rfl
    · rw [if_neg (by simpa using h), if_neg h]
      rfl

/-! ### CLEAR STATS and RETIRE -/

/-- Settles O39. -/
theorem clearAndRetireServed : Obligations.ClearAndRetireServed := by
  intro f k s hr hk
  refine ⟨fun hf => ?clear, fun hf => ?retire⟩
  case clear =>
    refine servedAtGrant (work := .clearStats k) ((takeRequest_content hr hf).trans
      (congrArg _ (State.awaitCell_asked hk .clearStats))) fun w => ⟨fun hfind => ?_, fun slot r hfind => ?_⟩
    · rw [State.performWork, State.workClearStats, State.onRecord_none hfind, State.answer_granted]
    · rw [State.performWork, State.workClearStats, State.onRecord_some hfind]
      rfl
  case retire =>
    refine servedAtGrant (work := .retire k) ((takeRequest_content hr hf).trans
      (congrArg _ (State.awaitCell_asked hk .retire))) fun w => ⟨fun hfind => ?_, fun slot r hfind => ?_⟩
    · rw [State.performWork, State.workRetire, State.onRecord_none hfind, State.answer_granted]
    · rw [State.performWork, State.workRetire, State.onRecord_some hfind]
      rfl

end Sys2Proof.Machine
end

section
/-! The statements about requests that need no table: STATUS, COUNTERS and the configuration (11.3 to 11.5). -/

namespace Sys2Proof.Machine

/-! ### STATUS and COUNTERS -/

theorem Latches.any_iff (l : Latches) : l.any = true ↔ l ≠ Latches.reset := by
  obtain ⟨_ | _, _ | _, _ | _, _ | _, _ | _, _ | _, _ | _, _ | _⟩ := l <;> decide

/-- Every latch that STATUS reports is cleared, and it reports them all (R182). -/
theorem Latches.clearShown_self (l : Latches) : l.clearShown l = Latches.reset := by
  simp only [Latches.clearShown, Bool.and_not_self]
  rfl

theorem SourceTable.reportCount_pos_iff (t : SourceTable) :
    0 < t.reportCount ↔ ∃ e ∈ t.slots, e.2.report = true := by
  simp [SourceTable.reportCount, List.length_pos_iff_exists_mem]

theorem State.alert_iff (s : State) : s.alert = true ↔ 0 < s.shownReports ∨ s.latches ≠ Latches.reset := by
  rw [State.alert, Bool.or_eq_true, decide_eq_true_eq, Latches.any_iff]

/-- What STATUS shows of the table and the queue with no operation in progress (R154). -/
theorem State.shown_idle {s : State} (h : s.arbiter.operation = none) :
    s.shownLive = s.table.liveCount ∧ s.shownReports = s.table.reportCount ∧
      s.shownDepth = s.former.queue.length := by
  simp only [State.shownLive, State.shownReports, State.shownDepth, h, and_self]

/-- What STATUS shows of them with one in progress: what stood before it (R154). -/
theorem State.shown_busy {s : State} {op : Operation} (h : s.arbiter.operation = some op) :
    s.shownLive = op.liveBefore ∧ s.shownReports = op.reportBefore ∧
      s.shownDepth = min 64 (s.former.queue.length + op.tookEntry.toNat) := by
  simp only [State.shownLive, State.shownReports, State.shownDepth, h, Config.queueCapacity, and_self]

/-- The report of STATUS, by what it shows (R182). -/
theorem State.statusReport_eq {s : State} {report : StatusReport}
    (h : report.run = s.run.state ∧ report.flavour = s.run.flavour ∧
        report.laneA = s.intake.laneA.state ∧ report.laneB = s.intake.laneB.state ∧
        report.locked = s.arbiter.locked ∧ report.cutoff = s.monitor.cutoff ∧
        report.phase = s.monitor.phase ∧ report.pressure = s.monitor.current ∧
        report.cycle = s.monitor.cycle ∧ report.backlog = s.sweep.backlog ∧
        report.latches = s.latches)
    (hlive : report.liveCount = s.shownLive) (hreports : report.reportCount = s.shownReports)
    (hdepth : report.queueDepth = s.shownDepth) : s.statusReport = report := by
  cases report
  simp_all [State.statusReport]

/-- Settles O41. -/
theorem statusAndCountersAnswered : Obligations.StatusAndCountersAnswered := by
  intro f s hr
  refine ⟨fun ho => ?_, fun op ho => ?_, fun hf report hreport hidle hbusy => ?status, fun hf => ?counters⟩
  · rw [State.alert_iff, (State.shown_idle ho).2.1, SourceTable.reportCount_pos_iff]
  · rw [State.alert_iff, (State.shown_busy ho).2.1]
  case status =>
    have hshown : report.liveCount = s.shownLive ∧ report.reportCount = s.shownReports ∧
        report.queueDepth = s.shownDepth := by
      cases ho : s.arbiter.operation with
      | none =>
        obtain ⟨h1, h2, h3⟩ := State.shown_idle ho
        rw [h1, h2, h3]
        exact hidle ho
      | some op =>
        obtain ⟨h1, h2, h3⟩ := State.shown_busy ho
        rw [h1, h2, h3]
        exact hbusy op ho
    obtain ⟨hlive, hreports, hdepth⟩ := hshown
    have hsame : (s.clockFiller (3 + f.payload.length)).statusReport = report :=
      State.statusReport_eq hreport hlive hreports hdepth
    refine ⟨(takeRequest_content hr hf).trans (congrArg _ ?_), ?_⟩
    · rw [State.requestStatus, hsame]
      have hlatches : (s.clockFiller (3 + f.payload.length)).updLatches (fun l => l.clearShown report.latches) =
          State.clockFiller { s with latches := Latches.reset } (3 + f.payload.length) := by
        obtain ⟨-, -, -, -, -, -, -, -, -, -, hl⟩ := hreport
        rw [hl, ← s.latches.clearShown_self]
        rfl
      rw [hlatches, State.respond_clockFiller]
    · rw [State.alert_iff, hreports]
      exact or_iff_left fun h => h rfl
  case counters =>
    refine ⟨if f.clear then s.clearCounters else s, (takeRequest_content hr hf).trans (congrArg _ ?_), fun hc => ?_,
      fun hc => ?_⟩
    · rw [State.requestCounters]
      cases hc : f.clear
      · exact State.respond_clockFiller s f _ _
      · exact State.respond_clockFiller s.clearCounters f _ _
    · rw [hc]
      rfl
    · rw [hc]
      exact ⟨rfl, rfl, rfl, rfl, rfl, rfl, rfl, rfl, rfl, rfl, rfl, rfl, rfl, rfl, rfl, rfl, rfl⟩

/-! ### Configuration -/

/-- The two bytes of a value in a CONFIG WRITE frame of the right form (Table 12-5). -/
theorem bytesToNat_configValue {f : Frame} (hf : formOk 0x04 f = true) :
    bytesToNat (f.payload.drop 1) = f.byteAt 1 + 256 * f.byteAt 2 := by
  have hlen : f.payload.length = 3 := by
    simp only [formOk, Bool.and_eq_true, beq_iff_eq, requestLength] at hf
    exact (Option.some.inj hf.2).symm
  have hall : (f.payload.drop 1).take 2 = f.payload.drop 1 := List.take_of_length_le (by simp [hlen])
  rw [← hall, bytesToNat_drop_take_two]
  rfl

/-- A write of a parameter with no effect of its own stores the clamped value and answers it (R185). -/
theorem State.writeParam_plain {q : Param} (hg : ∀ g, q ≠ .geometry g) (h1 : q ≠ .sampleTimeout) (h2 : q ≠ .lockLimit)
    (h3 : q ≠ .annEnable) (s : State) (hold : Bool) (v : Nat) :
    s.writeParam hold q v = (s.storeParam q v).answerWrite s hold q v := by
  cases q with
  | geometry g => exact absurd rfl (hg g)
  | sampleTimeout => exact absurd rfl h1
  | lockLimit => exact absurd rfl h2
  | annEnable => exact absurd rfl h3
  | _ => rfl

/-- The answer to a CONFIG WRITE of such a parameter, by the clamped value (R185). -/
theorem exec_configWrite_plain {f : Frame} {s : State} {q : Param} (hr : s.portReady = true) (hf : formOk 0x04 f = true)
    (hq : f.byteAt 0 = paramCode q) (hg : ∀ g, q ≠ .geometry g) (h1 : q ≠ .sampleTimeout) (h2 : q ≠ .lockLimit)
    (h3 : q ≠ .annEnable) {v x : Nat} (hv : f.byteAt 1 + 256 * f.byteAt 2 = v) (hx : s.params.clamped q v = x) :
    exec (.configWrite f) s = .next
      (State.answered { s with params := s.params.put q x } f (if x = v then .ok else .adjusted) (.config q x)) := by
  refine (takeRequest_content hr hf).trans (congrArg _ ?_)
  have hget : (s.params.put q x).get q = x := Params.get_put_self hg _ _
  have hpayload : Payload.config q x = .config q ((s.params.put q x).get q) := by rw [hget]
  rw [State.requestConfigWrite, hq, paramOfCode_paramCode, bytesToNat_configValue hf, hv]
  dsimp only
  rw [State.writeParam_plain hg h1 h2 h3, hpayload]
  refine Eq.trans ?_ (State.respond_clockFiller { s with params := s.params.put q x } f _ _)
  rw [← hx]
  rfl

/-- Whatever the geometry, the ends of the range of another parameter are in order (Table 11-4). -/
theorem Params.range_le {q : Param} (hg : ∀ g, q ≠ .geometry g) (p : Params) : (p.range q).1 ≤ (p.range q).2 := by
  cases q with
  | geometry g => exact absurd rfl (hg g)
  | _ => simp [Params.range]

/-- Settles O42: the rows are those of the model's own codes, ranges and stores. -/
theorem configurationAnswered : Obligations.ConfigurationAnswered := by
  intro f s hr v p row
  have hcode (q : Param) : (row q).code = paramCode q := by
    cases q with
    | geometry g => cases g <;> rfl
    | _ => rfl
  have hstored (q : Param) : (row q).stored = p.get q := by
    cases q with
    | geometry g => cases g <;> rfl
    | _ => rfl
  have hrange (q : Param) : ((row q).low, (row q).high) = p.range q := by
    cases q with
    | geometry g => cases g <;> rfl
    | _ => rfl
  have hstore (q : Param) (hg : ∀ g, q ≠ .geometry g) (x : Nat) : (row q).store x = p.put q x := by
    cases q with
    | geometry g => exact absurd rfl (hg g)
    | _ => rfl
  clear_value row
  have hclamped (q : Param) : p.clamped q v = max (row q).low (min (row q).high v) := by
    rw [Params.clamped, ← hrange]
    rfl
  have hbounds (q : Param) (hg : ∀ g, q ≠ .geometry g) : (row q).low ≤ (row q).high := by
    have hle := p.range_le hg
    rwa [← hrange] at hle
  simp only [hcode, hstored]
  refine ⟨fun hf => ⟨fun q hq => ?_, fun hq => ?_⟩, fun hf => ⟨fun c hc => ?_, fun hc => ?_⟩,
    fun hf => ⟨fun q hq hg h1 h2 h3 => ?write, fun hq => ?_⟩⟩
  · refine (takeRequest_content hr hf).trans (congrArg _ ?_)
    rw [State.requestConfigRead, hq, paramOfCode_paramCode]
    exact State.respond_clockFiller s f _ _
  · refine (takeRequest_content hr hf).trans (congrArg _ ?_)
    rw [State.requestConfigRead, paramOfCode_eq_none hq]
    exact State.respond_clockFiller s f _ _
  · refine (takeRequest_content hr hf).trans (congrArg _ ?_)
    rw [State.requestSensorRead, hc, channelOf_eq c.isLt]
    exact State.respond_clockFiller s f _ _
  · refine (takeRequest_content hr hf).trans (congrArg _ ?_)
    have hnone : channelOf (f.byteAt 0) = none := dif_neg (Nat.not_lt.mpr hc)
    rw [State.requestSensorRead, hnone]
    exact State.respond_clockFiller s f _ _
  case write =>
    have hle := hbounds q hg
    have hwrite (x : Nat) (hx : p.clamped q v = x) := exec_configWrite_plain hr hf hq hg h1 h2 h3 rfl hx
    simp only [hstore q hg]
    refine ⟨fun hlow hhigh => ?_, fun hlow => ?_, fun hhigh => ?_⟩
    · rw [hwrite v (by rw [hclamped]; omega), if_pos rfl]
    · rw [hwrite (row q).low (by rw [hclamped]; omega), if_neg (Nat.ne_of_gt hlow)]
    · rw [hwrite (row q).high (by rw [hclamped]; omega), if_neg (Nat.ne_of_lt hhigh)]
  · refine (takeRequest_content hr hf).trans (congrArg _ ?_)
    rw [State.requestConfigWrite, paramOfCode_eq_none hq]
    exact State.respond_clockFiller s f _ _

end Sys2Proof.Machine
end

section
/-! The statements about parameter writes with effects of their own, geometry writes and SENSOR WRITE (3.1, 3.2, 9.8,
11.5). -/

namespace Sys2Proof.Machine

/-! ### SAMPLE_TIMEOUT, LOCK_LIMIT and ANN_ENABLE -/

theorem State.testSampleTimeout_stale {s : State} (h : s.sampleStale = true) : s.testSampleTimeout = s.expireSample :=
  if_pos h

theorem State.testSampleTimeout_fresh {s : State} (h : ¬s.sampleStale = true) : s.testSampleTimeout = s := if_neg h

/-- A forced release that no operation holds up (R151). -/
theorem State.forceRelease_eq {s : State} (h : s.arbiter.breaking = false) : s.forceRelease =
    { s with
      arbiter := { s.arbiter with locked := false, lockLost := true }
      latches := { s.latches with lockBroken := true } } := by
  simp only [State.forceRelease, State.updArbiter, State.updLatches, h]

theorem State.annEnableWritten_same {s : State} {before : Nat} (h : s.params.annEnable = before) :
    s.annEnableWritten before = s := if_pos h

theorem State.annEnableWritten_off {s : State} {before : Nat} (h : s.params.annEnable ≠ before)
    (h0 : s.params.annEnable = 0) :
    s.annEnableWritten before = { s with annunciator := { s.annunciator with timer := none } } := by
  rw [State.annEnableWritten, if_neg h, if_pos h0]

theorem State.annEnableWritten_on {s : State} {before : Nat} (h : s.params.annEnable ≠ before)
    (h0 : ¬s.params.annEnable = 0) : s.annEnableWritten before = s.loadAnnTimer := by
  rw [State.annEnableWritten, if_neg h, if_neg h0]

/-- Settles O43: each write stores its clamped value, and the test that follows it is made on the stored value. -/
theorem ownEffectWritesAnswered : Obligations.OwnEffectWritesAnswered := by
  intro flags v s hr
  refine ⟨?sampleTimeout, ?lockLimit, ?annEnable⟩
  case sampleTimeout =>
    intro f x status stored expires
    have hstale : ((s.clockFiller (3 + f.payload.length)).storeParam .sampleTimeout v.toNat).sampleStale = true ↔
        expires := State.sampleStale_iff _
    have hexec := takeRequest_content (content := fun s => s.writeSampleTimeout f.hold v.toNat) hr
      (formOk_configFrame flags .sampleTimeout v)
    refine ⟨fun hno => hexec.trans (congrArg _ ?_), fun hyes => hexec.trans (congrArg _ ?_)⟩
    · rw [State.writeSampleTimeout, State.testSampleTimeout_fresh (mt hstale.mp hno)]
      exact State.respond_clockFiller stored f _ _
    · rw [State.writeSampleTimeout, State.testSampleTimeout_stale (hstale.mpr hyes)]
      exact State.respond_clockFiller stored.expireSample f _ _
  case lockLimit =>
    intro f x status stored expires
    have hexpired : ((s.clockFiller (3 + f.payload.length)).storeParam .lockLimit v.toNat).lockExpired = true ↔
        expires := State.lockExpired_iff _
    have hexec := takeRequest_content (content := fun s => s.writeLockLimit f.hold v.toNat) hr
      (formOk_configFrame flags .lockLimit v)
    refine ⟨fun hno => hexec.trans (congrArg _ ?_), fun hyes hport => hexec.trans (congrArg _ ?_)⟩
    · rw [State.writeLockLimit, State.testLockExpiry_eq, if_neg (mt hexpired.mp hno)]
      exact State.respond_clockFiller stored f _ _
    · have hfree : ((s.clockFiller (3 + f.payload.length)).storeParam .lockLimit v.toNat).portBusyAtTable ≠ true :=
        fun h => Bool.false_ne_true (hport.symm.trans h)
      obtain ⟨-, hbreaking, -⟩ := id hyes
      rw [State.writeLockLimit, State.testLockExpiry_eq, if_pos (hexpired.mpr hyes), if_neg hfree,
        ← State.forceRelease_eq (s := stored) hbreaking]
      exact State.respond_clockFiller stored.forceRelease f _ _
  case annEnable =>
    intro f x status stored
    have hexec := takeRequest_content (content := fun s => s.writeAnnEnable f.hold v.toNat) hr
      (formOk_configFrame flags .annEnable v)
    refine ⟨fun hsame => hexec.trans (congrArg _ ?_), fun hne h0 => hexec.trans (congrArg _ ?_),
      fun hne h1 => hexec.trans (congrArg _ ?_)⟩
    · rw [State.writeAnnEnable, State.annEnableWritten_same hsame.symm]
      exact State.respond_clockFiller stored f _ _
    · rw [State.writeAnnEnable, State.annEnableWritten_off (fun h => hne h.symm) h0]
      exact State.respond_clockFiller { stored with annunciator := { s.annunciator with timer := none } } f _ _
    · have hpos : ¬x = 0 := by omega
      rw [State.writeAnnEnable, State.annEnableWritten_on (fun h => hne h.symm) hpos]
      exact State.respond_clockFiller stored.loadAnnTimer f _ _

/-! ### Geometry writes -/

/-- The Source Table and the Zone Map after a write that empties them (R166). -/
theorem State.emptyTable_eq (s : State) : s.emptyTable =
    { s with
      table := { s.table with slots := [] }
      zones := Vector.replicate 64 { live := 0, building := 0, unlocated := 0 } } := by
  rw [← Vector.map_const' (xs := s.zones)]
  rfl

theorem vector_set_inj {α : Type} {n : Nat} {v : Vector α n} {i : Fin n} {x y : α} :
    v.set i x = v.set i y ↔ x = y := by
  refine ⟨fun h => ?_, fun h => by rw [h]⟩
  have hget := congrArg (fun w : Vector α n => w[i]) h
  simpa [vector_set_get] using hget

/-- A geometry write stores its value as written exactly where neither its range, nor a position, nor CELL moves
(R48, R49). -/
theorem Params.storeGeometry_asWritten (p : Params) (g : GeometryParam) (v : Nat) :
    p.storeGeometry g v = p.put (.geometry g) v ↔
      p.clamped (.geometry g) v = v ∧ (g = .length → (p.storeGeometry g v).ringPos = p.ringPos) ∧
        (g = .circ → (p.storeGeometry g v).colPos = p.colPos) ∧
        (g ≠ .cell → (p.storeGeometry g v).cell = p.cell) := by
  cases g with
  | length =>
    simp only [Params.storeGeometry, Params.store, Params.raiseCell, Params.put, Params.mk.injEq]
    simp [and_comm]
  | circ =>
    simp only [Params.storeGeometry, Params.store, Params.raiseCell, Params.put, Params.mk.injEq]
    simp [and_comm]
  | cell =>
    simp only [Params.storeGeometry, Params.store, Params.put, Params.mk.injEq]
    simp
  | ringPos i =>
    simp only [Params.storeGeometry, Params.store, Params.put, Params.mk.injEq, vector_set_inj]
    simp
  | colPos i =>
    simp only [Params.storeGeometry, Params.store, Params.put, Params.mk.injEq, vector_set_inj]
    simp

theorem Params.getGeometry_storeGeometry (p : Params) (g : GeometryParam) (v : Nat) :
    (p.storeGeometry g v).getGeometry g = p.clamped (.geometry g) v := by
  cases g with
  | ringPos i => exact (vector_set_get _ _ _ _).trans (if_pos rfl)
  | colPos i => exact (vector_set_get _ _ _ _).trans (if_pos rfl)
  | _ => rfl

/-- A geometry write at an idle table in SETUP is served with the value that its range leaves (R48, R49, R166). -/
theorem serves_geometryWrite {s : State} (hr : s.portReady = true) (hsetup : s.run.state = .setup)
    (hi : s.tableIdle = true) (flags : Byte) (g : GeometryParam) (v : BitVec 16) :
    Serves (.geometryWrite flags g v) s
      (({ s with
          params := s.params.storeGeometry g v.toNat, table := { s.table with slots := [] }
          zones := Vector.replicate 64 { live := 0, building := 0, unlocated := 0 } } : State).served
        (configFrame flags (.geometry g) v) (s.params.geometryStatus g v.toNat)
        (.config (.geometry g) (s.params.clamped (.geometry g) v.toNat))) := by
  refine serves_of_work (work := .geometry g v.toNat) _ _ _ s.sensors s.intake hr hi
    ((takeRequest_content hr (formOk_configFrame flags (.geometry g) v)).trans (congrArg _ ?_)) fun p a => ?_
  · rw [State.writeGeometry, if_pos (show (s.clockFiller _).run.state = .setup from hsetup)]
    rfl
  · rw [State.performWork, State.workGeometry, State.emptyTable_eq]
    dsimp only
    rw [Params.getGeometry_storeGeometry]

/-! ### SENSOR WRITE -/

/-- The conflict of an entry, in the terms of the statements (R52). -/
theorem State.sensorConflict_iff (s : State) (c : Channel) (e : Sensor) :
    s.sensorConflict c e = true ↔ e.enabled = true ∧ ∃ d : Channel, d ≠ c ∧ s.sensors[d].enabled = true ∧
      s.sensors[d].ring = e.ring ∧ s.sensors[d].column = e.column := by
  simp [State.sensorConflict, and_assoc]

theorem gridLine_eq {n : Nat} (h : n < 16) : gridLine n = some ⟨n, h⟩ := dif_pos h

theorem sensorOperands_some {f : Frame} {c : Channel} {e : Sensor} (hc : f.byteAt 0 = c.val)
    (hring : f.byteAt 1 = e.ring.val) (hcolumn : f.byteAt 2 = e.column.val)
    (henabled : (f.payload.getD 3 0).getLsbD 0 = e.enabled) : sensorOperands f = some (c, e) := by
  rw [sensorOperands, hc, hring, hcolumn, henabled, channelOf_eq c.isLt, gridLine_eq e.ring.isLt,
    gridLine_eq e.column.isLt]

theorem sensorOperands_none {f : Frame} (h : 63 < f.byteAt 0 ∨ 15 < f.byteAt 1 ∨ 15 < f.byteAt 2) :
    sensorOperands f = none := by
  unfold sensorOperands
  split
  · next hc hring hcolumn =>
    have hc : f.byteAt 0 < 64 := Decidable.of_not_not fun hn => by simp [channelOf, hn] at hc
    have hring : f.byteAt 1 < 16 := Decidable.of_not_not fun hn => by simp [gridLine, hn] at hring
    have hcolumn : f.byteAt 2 < 16 := Decidable.of_not_not fun hn => by simp [gridLine, hn] at hcolumn
    omega
  · rfl

/-- Settles O40. -/
theorem geometryWritesServed : Obligations.GeometryWritesServed := by
  intro s hr emptied zero grid
  refine ⟨?geometry, fun f hf hout => ?out, ?sensor⟩
  case geometry =>
    intro flags g v f x p asWritten stored
    refine ⟨fun hrun => ?state, fun hrun hi => ?served⟩
    case state =>
      refine (takeRequest_content hr (formOk_configFrame flags (.geometry g) v)).trans (congrArg _ ?_)
      rw [State.writeGeometry, if_neg (show (s.clockFiller _).run.state ≠ .setup from hrun)]
      exact State.respond_clockFiller s f _ _
    case served =>
      have hx : s.params.clamped (.geometry g) v.toNat = x := by cases g <;> rfl
      have hp : s.params.storeGeometry g v.toNat = p := by cases g <;> rfl
      have hwritten : s.params.storeGeometry g v.toNat = s.params.put (.geometry g) v.toNat ↔ asWritten := by
        rw [Params.storeGeometry_asWritten, hx, hp]
      have hserves := serves_geometryWrite hr hrun hi flags g v
      rw [Params.geometryStatus, hx] at hserves
      refine ⟨fun h => ?_, fun h => ?_⟩
      · rwa [if_pos (hwritten.mpr h), hp] at hserves
      · rwa [if_neg (mt hwritten.mp h), hp] at hserves
  case out =>
    refine (takeRequest_content hr hf).trans (congrArg _ ?_)
    rw [State.requestSensorWrite, sensorOperands_none hout]
    exact State.respond_clockFiller s f _ _
  case sensor =>
    intro f c e hf hc hring hcolumn henabled conflict
    have hops := sensorOperands_some hc hring hcolumn henabled
    have hconflict : (s.clockFiller (3 + f.payload.length)).sensorConflict c e = true ↔ conflict :=
      State.sensorConflict_iff s c e
    have hsetup (h : s.run.state = .setup) : ¬(s.clockFiller (3 + f.payload.length)).run.state ≠ .setup :=
      fun hn => hn h
    refine ⟨fun hrun => (takeRequest_content hr hf).trans (congrArg _ ?_),
      fun hrun hyes => (takeRequest_content hr hf).trans (congrArg _ ?_), fun hrun hno hi => ?_⟩
    · rw [State.requestSensorWrite, hops]
      dsimp only
      rw [if_pos (show (s.clockFiller _).run.state ≠ .setup from hrun)]
      exact State.respond_clockFiller s f _ _
    · rw [State.requestSensorWrite, hops]
      dsimp only
      rw [if_neg (hsetup hrun), if_pos (hconflict.mpr hyes)]
      exact State.respond_clockFiller s f _ _
    · refine serves_of_work (work := .sensor c e) _ _ s.params _ _ hr hi
        ((takeRequest_content hr hf).trans (congrArg _ ?_)) fun p a => ?_
      · rw [State.requestSensorWrite, hops]
        dsimp only
        rw [if_neg (hsetup hrun), if_neg (mt hconflict.mp hno)]
        rfl
      · rw [State.performWork, State.workSensor, State.emptyTable_eq]

end Sys2Proof.Machine
end

section
/-! The statements about Run Control: START, STOP, FREEZE, THAW, ENGINE RESET, RESTART CHANNELS and the drain ends
(chapter 9). -/

namespace Sys2Proof.Machine

/-! ### Answers -/

/-- The completion of a request, as one equation (R150, R151, R176, R178). -/
theorem State.respond_eq (s : State) (hold : Bool) (status : Status) (payload : Payload) :
    s.respond hold status payload =
      { s with
        port := { s.port with
          request := none
          response := some { status := status, lockLost := s.arbiter.lockLost, payload := payload } }
        arbiter := { s.arbiter with
          lockLost := false
          locked := hold && s.arbiter.locked
          breaking := hold && s.arbiter.breaking } } := by
  cases hold <;> simp [State.respond, State.releaseLock, State.updArbiter]

/-! ### START -/

theorem vector_toList {α : Type} {n : Nat} (v : Vector α n) : v.toList = (List.finRange n).map fun i => v[i] := by
  refine List.ext_getElem (by simp) fun i h1 h2 => ?_
  rw [Vector.getElem_toList, List.getElem_map, List.getElem_finRange]
  rfl

theorem State.enabledCount_eq (s : State) :
    s.enabledCount = ((List.finRange 64).filter fun c => s.sensors[c].enabled).length := by
  rw [State.enabledCount, vector_toList, List.filter_map, List.length_map]
  rfl

/-- The filler on SDO and the start of a run touch different blocks. -/
theorem State.clockFiller_startRun (s : State) (n : Nat) : (s.clockFiller n).startRun = s.startRun.clockFiller n := by
  rw [State.startRun_eq, State.startRun_eq]
  rfl

/-- Settles O45. -/
theorem startAnswered : Obligations.StartAnswered := by
  intro f s hr hf enabled
  have hexec := takeRequest_content (content := fun s => s.requestStart f.hold) hr hf
  have hcount : (s.clockFiller (3 + f.payload.length)).enabledCount = enabled.length := s.enabledCount_eq
  refine ⟨fun hsetup htwo => hexec.trans (congrArg _ ?_), fun hrefused => hexec.trans (congrArg _ ?_)⟩
  · have hstarts : (s.clockFiller (3 + f.payload.length)).run.state = .setup ∧
        2 ≤ (s.clockFiller (3 + f.payload.length)).enabledCount := ⟨hsetup, hcount ▸ htwo⟩
    rw [State.requestStart, if_pos hstarts, State.clockFiller_startRun, State.respond_clockFiller]
    refine congrArg (State.answered · f .ok .none) ?_
    rw [State.startRun_eq]
    by_cases hdone : s.intake.phase = .done
    · simp only [if_pos hdone]
      rfl
    · simp only [if_neg hdone]
      rfl
  · have hrefuses : ¬((s.clockFiller (3 + f.payload.length)).run.state = .setup ∧
        2 ≤ (s.clockFiller (3 + f.payload.length)).enabledCount) := by
      rintro ⟨hsetup, htwo⟩
      rw [hcount] at htwo
      rcases hrefused with h | h
      · exact h hsetup
      · omega
    rw [State.requestStart, if_neg hrefuses]
    exact State.respond_clockFiller s f _ _

/-! ### Requests that wait for a fold or slice -/

/-- Both drain tests at the end of a fold or slice: FROZEN where a drain is complete (R160, R164). -/
theorem State.testDrains_finished (s : State) (op : Operation) :
    let u := (s.updArbiter fun a => { a with operation := none }).finished op
    (u.Drained ∧ u.testRequestedDrain.testRuptureDrain = u.enterFrozen) ∨
      (¬u.Drained ∧ u.testRequestedDrain.testRuptureDrain = u) := by
  intro u
  by_cases hd : u.Drained
  · exact .inl ⟨hd, State.testDrains_drained rfl hd⟩
  · exact .inr ⟨hd, State.testDrains_not rfl hd⟩

/-- A request taken from its frame that waits at a stage, the filler of the frame on SDO (R154, R176). -/
def State.awaiting (s : State) (f : Frame) (stage : RequestStage) : State :=
  (s.clockFiller (3 + f.payload.length)).updPort fun p => { p with request := some { hold := f.hold, stage := stage } }

/-- The completion of a fold or slice for which a STOP waits (R154, R158). -/
theorem exec_complete_stop {s : State} {op : Operation} {hold : Bool} (hr : s.resetAsserted = false)
    (ho : s.arbiter.operation = some op) (hne : op.requester ≠ .port)
    (hq : s.port.request = some { hold := hold, stage := .stop }) :
    exec .operationCompletion s =
      .next (((s.updArbiter fun a => { a with operation := none }).finished
        op).testRequestedDrain.testRuptureDrain.stopRun.respond hold .ok .none) := by
  rw [exec_complete hr ho, State.completeOperation, ho]
  dsimp only
  rw [if_neg hne]
  rcases (s.updArbiter fun a => { a with operation := none }).completeBackground_cases op with
    ⟨-, h⟩ | ⟨hold', hq', e⟩ | ⟨hold', hq', -⟩
  · exact absurd rfl (h hold .stop hq).1
  · obtain rfl : hold = hold' := by simpa using hq.symm.trans hq'
    exact congrArg _ e
  · simpa using hq.symm.trans hq'

/-- The completion of a fold or slice for which an ENGINE RESET waits (R154, R165). -/
theorem exec_complete_engineReset {s : State} {op : Operation} {hold : Bool} (hr : s.resetAsserted = false)
    (ho : s.arbiter.operation = some op) (hne : op.requester ≠ .port)
    (hq : s.port.request = some { hold := hold, stage := .engineReset }) :
    exec .operationCompletion s =
      .next (((s.updArbiter fun a => { a with operation := none }).finished
        op).testRequestedDrain.testRuptureDrain.resetEngine.respond hold .ok .none) := by
  rw [exec_complete hr ho, State.completeOperation, ho]
  dsimp only
  rw [if_neg hne]
  rcases (s.updArbiter fun a => { a with operation := none }).completeBackground_cases op with
    ⟨-, h⟩ | ⟨hold', hq', -⟩ | ⟨hold', hq', e⟩
  · exact absurd rfl (h hold .engineReset hq).2
  · simpa using hq.symm.trans hq'
  · obtain rfl : hold = hold' := by simpa using hq.symm.trans hq'
    exact congrArg _ e

theorem State.backgroundBusy_of {s : State} {op : Operation} (ho : s.arbiter.operation = some op)
    (hne : op.requester ≠ .port) : s.backgroundBusy = true := by
  rw [State.backgroundBusy_some ho, beq_eq_false_iff_ne.mpr hne]
  rfl

/-! ### STOP -/

/-- STOP, as one equation (R5, R18, R41, R139, R158). -/
theorem State.stopRun_eq (s : State) :
    let close := fun (r : LaneReceiver) =>
      { r with slot := none, state := if r.state = .settling then .settling else .closed }
    s.stopRun =
      { s with
        intake := { s.intake with
          fifo := [], laneA := close s.intake.laneA, laneB := close s.intake.laneB }
        former := { s.former with
          openSet := []
          aborteds := min 65535 (s.former.aborteds + s.former.openSet.length)
          queue := []
          eventDrops := min 65535 (s.former.eventDrops + s.former.queue.length) }
        sweep := { s.sweep with timer := none, backlog := 0, pass := false, cursor := 0 }
        zones := s.zones.map fun z => { z with building := 0 }
        run := { state := .setup, flavour := none } } := by
  have hclose (st : LaneState) : st.close = if st = .settling then .settling else .closed := by
    cases st <;> rfl
  intro close
  unfold State.stopRun
  simp only [hclose, satAdd, State.abortOpenEvents, State.updIntake, State.updFormer]
  rfl

/-- Settles O46. -/
theorem stopAnswered : Obligations.StopAnswered := by
  intro f s hr hf close stopped drained
  obtain ⟨hreset, -⟩ := State.steady_iff.mp (State.portReady_iff.mp hr).1
  have hexec := takeRequest_content (content := fun s => s.requestStop f.hold) hr hf
  refine ⟨fun hsetup => hexec.trans (congrArg _ ?_), fun hrun hidle => hexec.trans (congrArg _ ?_),
    fun op hrun ho hne => ?_⟩
  · rw [State.requestStop, if_pos (show (s.clockFiller _).run.state = .setup from hsetup)]
    exact State.respond_clockFiller s f _ _
  · have hfree : (s.clockFiller (3 + f.payload.length)).backgroundBusy ≠ true := by
      rw [← Bool.not_eq_true] at hidle
      exact hidle
    rw [State.requestStop, if_neg (show ¬(s.clockFiller _).run.state = .setup from hrun), if_neg hfree,
      State.stopRun_eq]
    exact State.respond_clockFiller stopped f _ _
  · have hbusy : (s.clockFiller (3 + f.payload.length)).backgroundBusy = true := State.backgroundBusy_of ho hne
    refine ⟨s.awaiting f .stop, hexec.trans (congrArg _ ?_), ?_⟩
    · rw [State.requestStop, if_neg (show ¬(s.clockFiller _).run.state = .setup from hrun), if_pos hbusy]
      rfl
    · rw [exec_complete_stop (s := s.awaiting f .stop) (hold := f.hold) (op := op) hreset ho hne rfl]
      congr 1
      rcases State.testDrains_finished (s.awaiting f .stop) op with ⟨hd, e⟩ | ⟨hd, e⟩
      · have hd : drained op := hd
        rw [e, State.stopRun_eq, State.respond_eq, decide_eq_true hd, Bool.or_true]
        dsimp only [State.answered, State.finished, State.awaiting, State.updArbiter, State.updPort, State.clockFiller,
          State.enterFrozen, stopped, close]
      · have hd : ¬drained op := hd
        rw [e, State.stopRun_eq, State.respond_eq, decide_eq_false hd, Bool.or_false]
        dsimp only [State.answered, State.finished, State.awaiting, State.updArbiter, State.updPort, State.clockFiller,
          stopped, close]

/-! ### FREEZE and THAW -/

/-- A requested drain begun in FREEZING ends at once where nothing is left (R160). -/
theorem State.testRequestedDrain_freezing {s : State}
    (h : s.run = { state := .freezing, flavour := some .requested }) :
    s.testRequestedDrain = { s with
      run := { state := if s.requestedDrained then .frozen else .freezing, flavour := some .requested }
      latches := { s.latches with frozenReached := s.latches.frozenReached || s.requestedDrained } } := by
  unfold State.testRequestedDrain
  cases hd : s.requestedDrained
  · rw [if_neg (fun hall => by simp at hall)]
    simp [← h]
  · rw [if_pos (by simp [h])]
    simp [State.enterFrozen, h]

theorem State.boundary_iff (s : State) : s.boundary = true ↔
    (s.run.state = .freezing ∨ s.run.state = .frozen) ∧ s.run.flavour = some .requested := by
  simp [State.boundary]

/-- Settles O47. -/
theorem freezeAndThawAnswered : Obligations.FreezeAndThawAnswered := by
  intro f s hr
  refine ⟨fun hf => ?freeze, fun hf => ?thaw⟩
  case freeze =>
    intro drained
    have hexec := takeRequest_content (content := fun s => s.requestFreeze f.hold) hr hf
    have hstate : (s.clockFiller (3 + f.payload.length)).run.state = s.run.state := rfl
    refine ⟨fun hrun => hexec.trans (congrArg _ ?_), fun hrun => hexec.trans (congrArg _ ?_),
      fun hrun => hexec.trans (congrArg _ ?_)⟩
    · rw [State.requestFreeze, hstate, hrun]
      exact State.respond_clockFiller s f _ _
    · rcases hrun with hrun | hrun <;> rw [State.requestFreeze, hstate, hrun] <;>
        exact State.respond_clockFiller s f _ _
    · rw [State.requestFreeze, hstate, hrun]
      dsimp only
      rw [State.freezeRun, State.testRequestedDrain_freezing rfl]
      exact State.respond_clockFiller
        { s with
          sweep := { s.sweep with timer := none }
          run := { state := if drained then .frozen else .freezing, flavour := some .requested }
          latches := { s.latches with frozenReached := s.latches.frozenReached || drained } } f _ _
  case thaw =>
    intro thaws
    have hexec := takeRequest_content (content := fun s => s.requestThaw f.hold) hr hf
    have hboundary : (s.clockFiller (3 + f.payload.length)).boundary = true ↔ thaws := s.boundary_iff
    refine ⟨fun hyes => hexec.trans (congrArg _ ?_), fun hno => hexec.trans (congrArg _ ?_)⟩
    · rw [State.requestThaw, if_pos (hboundary.mpr hyes)]
      exact State.respond_clockFiller s.thawRun f _ _
    · rw [State.requestThaw, if_neg (mt hboundary.mp hno)]
      exact State.respond_clockFiller s f _ _

/-! ### ENGINE RESET and RESTART CHANNELS -/

/-- ENGINE RESET leaves FROZEN also where the end of a drain has just entered it (R164, R165). -/
theorem State.resetEngine_enterFrozen {s : State} (h : s.run.state = .freezing) :
    s.enterFrozen.resetEngine = s.resetEngine := by
  rw [State.resetEngine_eq, State.resetEngine_eq]
  simp [State.enterFrozen, h]

/-- So the drain tests of a completion change nothing of what ENGINE RESET leaves. -/
theorem State.testDrains_resetEngine (s : State) (op : Operation) :
    ((s.updArbiter fun a => { a with operation := none }).finished
        op).testRequestedDrain.testRuptureDrain.resetEngine =
      ((s.updArbiter fun a => { a with operation := none }).finished op).resetEngine := by
  rcases s.testDrains_finished op with ⟨hd, e⟩ | ⟨-, e⟩
  · rw [e, State.resetEngine_enterFrozen hd.1]
  · rw [e]

/-- The rupture drain where no event is open (R164). -/
theorem State.ruptureDrained_iff {s : State} (h : s.former.openSet = []) : s.ruptureDrained = true ↔
    s.former.queue = [] ∧ s.sweep.backlog = 0 ∧ s.sweep.pass = false ∧ s.backgroundBusy = false := by
  simp [State.ruptureDrained, h, and_assoc]

/-- Settles O48. -/
theorem engineResetAndRestartAnswered : Obligations.EngineResetAndRestartAnswered := by
  intro f s hr aborteds
  obtain ⟨hreset, -⟩ := State.steady_iff.mp (State.portReady_iff.mp hr).1
  refine ⟨fun hf => ?reset, by simp [State.chrst], fun hf => ?restart⟩
  case reset =>
    intro after
    have hexec := takeRequest_content (content := fun s => s.requestEngineReset f.hold) hr hf
    refine ⟨fun hidle => hexec.trans (congrArg _ ?_), fun op ho hne => ?_⟩
    · have hfree : (s.clockFiller (3 + f.payload.length)).backgroundBusy ≠ true := by
        rw [← Bool.not_eq_true] at hidle
        exact hidle
      rw [State.requestEngineReset, if_neg hfree, State.resetEngine_eq]
      exact State.respond_clockFiller after f _ _
    · have hbusy : (s.clockFiller (3 + f.payload.length)).backgroundBusy = true := State.backgroundBusy_of ho hne
      refine ⟨s.awaiting f .engineReset, hexec.trans (congrArg _ ?_), ?_⟩
      · rw [State.requestEngineReset, if_pos hbusy]
        rfl
      · rw [exec_complete_engineReset (s := s.awaiting f .engineReset) (hold := f.hold) (op := op) hreset ho hne rfl]
        rw [State.testDrains_resetEngine, State.resetEngine_eq, State.respond_eq]
        dsimp only [State.answered, State.finished, State.awaiting, State.updArbiter, State.updPort, State.clockFiller,
          Intake.emptyPath, satAdd, after, aborteds]
        rfl
  case restart =>
    intro drained t
    refine ⟨(takeRequest_content (content := fun s => s.requestRestart f.hold) hr hf).trans (congrArg _ ?_), rfl⟩
    have hiff : (s.clockFiller (3 + f.payload.length)).startRestart.ruptureDrained = true ↔
        s.former.queue = [] ∧ s.sweep.backlog = 0 ∧ s.sweep.pass = false ∧ s.backgroundBusy = false :=
      State.ruptureDrained_iff rfl
    rw [State.requestRestart, State.testRuptureDrain]
    by_cases hd : drained
    · have ⟨hrun, hflavour, hrest⟩ := hd
      rw [if_pos ⟨hrun, hflavour, hiff.mpr hrest⟩]
      refine (State.respond_clockFiller s.startRestart.enterFrozen f _ _).trans ?_
      simp only [t, if_pos hd, decide_eq_true hd, Bool.or_true]
      rfl
    · rw [if_neg fun h => hd ⟨h.1, h.2.1, hiff.mp h.2.2⟩]
      refine (State.respond_clockFiller s.startRestart f _ _).trans ?_
      simp only [t, if_neg hd, decide_eq_false hd, Bool.or_false]
      rfl

/-! ### The drain ends -/

/-- Settles O49. -/
theorem drainsEnd : Obligations.DrainsEnd := by
  intro s hs hrun hbacklog hpass hbusy frozen
  refine ⟨fun hflavour hheld => ?_, fun hflavour hqueue hopen => ?_⟩
  · refine (afterGrant_steady (·.testRequestedDrain) hs).trans (congrArg _ (if_pos ⟨hrun, hflavour, ?_⟩))
    simpa [State.requestedDrained, hbacklog, hpass, hbusy] using hheld
  · refine (afterGrant_steady (·.testRuptureDrain) hs).trans (congrArg _ (if_pos ⟨hrun, hflavour, ?_⟩))
    exact (State.ruptureDrained_iff hopen).mpr ⟨hqueue, hbacklog, hpass, hbusy⟩

end Sys2Proof.Machine
end

section
/-! The statements about the annunciator frame (10.2, 10.3) and about request frames that are turned away (11.1, 11.2,
11.7). -/

namespace Sys2Proof.Machine

/-! ### Characters -/

/-- The count of ones of a byte is the sum of its bits. -/
theorem byteOnes_eq (b : Byte) : byteOnes b = ((List.range 8).map fun i => (b.getLsbD i).toNat).sum := by
  unfold byteOnes
  generalize List.range 8 = l
  induction l with
  | nil => rfl
  | cons i l ih =>
    rw [List.filter_cons, List.map_cons, List.sum_cons, ← ih]
    cases b.getLsbD i <;> simp [Nat.add_comm]

theorem getLsbD_ofNat_eq (w n i : Nat) (hi : i < w) : (BitVec.ofNat w n).getLsbD i = decide (n / 2 ^ i % 2 = 1) := by
  rw [BitVec.getLsbD_ofNat, decide_eq_true hi, Bool.true_and, Nat.testBit_eq_decide_div_mod_eq]

theorem toNat_decide (p : Prop) [Decidable p] : (decide p).toNat = if p then 1 else 0 := by
  by_cases h : p <;> simp [h]

/-- A character made of a byte and a marker carries them (R191). -/
theorem makeCharacter_carries (marker : Bool) (data : Byte) : Carries marker data (makeCharacter marker data) := by
  have hdata := data.isLt
  have hmarker := marker.toNat_lt
  obtain ⟨parity, hparity⟩ : ∃ p, (byteOnes data + marker.toNat + 1) % 2 = p := ⟨_, rfl⟩
  have hbit (i : Nat) (hi : i < 12) : (makeCharacter marker data).getLsbD i =
      decide ((2 * data.toNat + 512 * marker.toNat + 1024 * parity + 2048) / 2 ^ i % 2 = 1) := by
    unfold makeCharacter
    rw [hparity]
    exact getLsbD_ofNat_eq 12 _ i hi
  have hpar : parity < 2 := by omega
  have hbits (i : Nat) (hi : i < 8) : (makeCharacter marker data).getLsbD (i + 1) = data.getLsbD i := by
    rw [hbit (i + 1) (by omega), getLsbD_eq_div]
    congr 2
    match i, hi with
    | 0, _ | 1, _ | 2, _ | 3, _ | 4, _ | 5, _ | 6, _ | 7, _ => omega
    | _ + 8, h => omega
  have hmarked : (makeCharacter marker data).getLsbD 9 = marker := by
    rw [hbit 9 (by omega)]
    cases marker <;> simp only [Bool.toNat_false, Bool.toNat_true, decide_eq_true_eq, decide_eq_false_iff_not] <;> omega
  have hparbit : ((makeCharacter marker data).getLsbD 10).toNat = parity := by
    rw [hbit 10 (by omega), toNat_decide]
    split <;> omega
  refine ⟨?_, hbits, hmarked, ?_, ?_⟩
  · rw [hbit 0 (by omega), decide_eq_false_iff_not]
    omega
  · have hsum : ((List.range 10).map fun i => ((makeCharacter marker data).getLsbD (i + 1)).toNat).sum =
        byteOnes data + marker.toNat + parity := by
      have hlow : (List.range 8).map (fun i => ((makeCharacter marker data).getLsbD (i + 1)).toNat) =
          (List.range 8).map fun i => (data.getLsbD i).toNat :=
        List.map_congr_left fun i hi => by rw [hbits i (List.mem_range.mp hi)]
      rw [List.range_succ, List.range_succ, List.map_append, List.map_append, List.sum_append, List.sum_append, hlow,
        ← byteOnes_eq]
      simp only [List.map_cons, List.map_nil, List.sum_cons, List.sum_nil, Nat.add_zero, hmarked, hparbit]
    rw [hsum]
    omega
  · rw [hbit 11 (by omega), decide_eq_true_eq]
    omega

/-! ### The annunciator frame -/

/-- ANOUT within a frame: bit `j` of character `i` on every tick that lies within that bit (R173, R191). -/
theorem State.anout_sending {s : State} {x : Sending} {ch : Character} {i j : Nat} (hx : s.annunciator.sending = some x)
    (hch : x.characters[i]? = some ch) (hj : j < 12) (hlo : 5 * (12 * i + j) ≤ 2 * x.ticks)
    (hhi : 2 * (x.ticks + 1) ≤ 5 * (12 * i + j + 1)) : s.anout = ch.getLsbD j := by
  have hi : x.ticks / Config.characterTicks = i := by
    show x.ticks / 30 = i
    omega
  have hbit : x.ticks % Config.characterTicks * 2 / 5 = j := by
    have hi : x.ticks / 30 = i := hi
    show x.ticks % 30 * 2 / 5 = j
    have hsplit := Nat.div_add_mod x.ticks 30
    rw [hi] at hsplit
    omega
  simp only [State.anout, hx, hi, hch, hbit]

/-- ANNUNCIATOR_FRAME_START at the end of the period, also where a grant is owed (R173). -/
theorem exec_annunciatorFrameStart {s : State} {x : Timer} (hr : s.resetAsserted = false)
    (hx : s.annunciator.timer = some x) (hdue : x.interval ≤ x.elapsed) :
    exec .annunciatorFrameStart s = .next
      { s with annunciator :=
          { timer := some { elapsed := 0, interval := s.params.annPeriod * 1000 }
            sending := some { characters := s.frameCharacters, ticks := 0 } } } := by
  have hannDue : s.annDue = true := by simp [State.annDue, hx, hdue]
  show whileReleased s s.startFrame = _
  rw [whileReleased_released _ hr, State.startFrame, if_pos hannDue]

/-- Settles O50. -/
theorem frameStarts : Obligations.FrameStarts := by
  refine ⟨fun s h => by simp only [State.anout, h], fun s x ch i j hx hch hj hlo hhi =>
    State.anout_sending hx hch hj hlo hhi, ?_⟩
  intro x s hr hx hdue marker code
  have hmarker : s.run.marker = marker := by
    cases hst : s.run.state <;> rcases hfl : s.run.flavour with _ | _ | _ <;>
      simp only [RunControl.marker, marker, hst, hfl]
  have hmade (m : Bool) (b : Byte) : receive (makeCharacter m b) = if m then .header b else .data b :=
    (makeCharacter_carries m b).receive
  refine ⟨s.frameCharacters, exec_annunciatorFrameStart hr hx hdue, ?_, ⟨_, rfl, ?_⟩,
    fun i => ⟨makeCharacter false (s.zoneByte i), ?_, makeCharacter_carries false _, hmade false _⟩⟩
  · simp [State.frameCharacters]
  · rw [hmarker]
    exact ⟨makeCharacter_carries true _, hmade true _⟩
  · simp [State.frameCharacters]

/-! ### Request frames -/

/-- The bytes of a request frame with a code of its own are a code, the flags, the length and the payload. -/
theorem exec_request {c : Instr} {bytes : List Byte} (he : encodeFrame c = some bytes) (hread : ∀ r, c ≠ .responseRead r)
    (hunknown : ∀ b, c ≠ .unknownRequestCode b) :
    ∃ code f content, bytes = frameBytes code f ∧
      ∀ s : State, exec c s = afterGrant s fun s => s.takeRequest code.toNat f content := by
  cases c
  case responseRead r => exact absurd rfl (hread r)
  case unknownRequestCode b => exact absurd rfl (hunknown b)
  all_goals cases he
  all_goals exact ⟨_, _, _, rfl, fun _ => rfl⟩

/-- A request frame that finds the port busy collides, whatever it asks (R179). -/
theorem takeRequest_busy {s : State} {code : Nat} {f : Frame} {content : State → State} (hs : s.steady = true)
    (h : s.portBusy = true) :
    (afterGrant s fun s => s.takeRequest code f content) = .next (s.clockFiller (3 + f.payload.length)).collide := by
  rw [afterGrant_steady _ hs]
  rcases State.takeRequest_cases s code f content with ⟨-, e⟩ | ⟨hfree, -⟩ | ⟨hfree, -⟩
  · rw [e]
  · exact absurd h (by simp [hfree])
  · exact absurd h (by simp [hfree])

theorem frameBytes_length (code : Byte) (f : Frame) : (frameBytes code f).length = 3 + f.payload.length := by
  simp only [frameBytes, List.length_cons]
  omega

theorem frameBytes_inj {code code' : Byte} {f f' : Frame} (h : frameBytes code f = frameBytes code' f') :
    code = code' ∧ f = f' := by
  simp only [frameBytes, List.cons.injEq] at h
  obtain ⟨hcode, hflags, hlength, hpayload⟩ := h
  exact ⟨hcode, by cases f; cases f'; simp_all⟩

/-- A frame with no request code of its own is turned away (R176). -/
theorem exec_unknown {s : State} (hs : s.steady = true) (code : Byte) (rest : List Byte) :
    exec (.unknownRequestCode (code :: rest)) s = .next
      (if s.portBusy then (s.clockFiller (rest.length + 1)).collide
        else (s.clockFiller (rest.length + 1)).respond ((rest.getD 0 0).getLsbD 0) .badRequest .none) :=
  (afterGrant_steady (·.takeUnknown (code :: rest)) hs).trans rfl

theorem markAction_none {n : Nat} (h : n % 4 = 3) : markAction n = none := by
  simp only [markAction, h]

/-! ### Requests for a cell that is outside the grid -/

section
variable {s : State} {f : Frame} (hr : s.portReady = true)
include hr

theorem exec_scan_badGrade (hf : formOk 0x21 f = true) (h : 3 < f.byteAt f.refBytes) :
    exec (.scan f) s = .next (s.answered f .badRequest .none) := by
  refine (takeRequest_content hr hf).trans (congrArg _ ?_)
  rw [State.requestScan, if_pos h, State.respond_clockFiller]

theorem exec_seed_badHome (hf : formOk 0x23 f = true) (h : 63 < f.byteAt (f.refBytes + 2)) :
    exec (.seed f) s = .next (s.answered f .badRequest .none) := by
  have hnone : channelOf (f.byteAt (f.refBytes + 2)) = none := dif_neg (Nat.not_lt.mpr h)
  refine (takeRequest_content hr hf).trans (congrArg _ ?_)
  rw [State.requestSeed, hnone]
  exact State.respond_clockFiller s f _ _

theorem exec_mark_badAction (hf : formOk 0x24 f = true)
    (h : f.byteAt f.refBytes % 4 = 3 ∨ f.byteAt f.refBytes / 4 % 4 = 3) :
    exec (.mark f) s = .next (s.answered f .badRequest .none) := by
  refine (takeRequest_content hr hf).trans (congrArg _ ?_)
  rcases h with h | h
  · rw [State.requestMark, markAction_none h]
    exact State.respond_clockFiller s f _ _
  · rw [State.requestMark, markAction_none h]
    cases markAction (f.byteAt f.refBytes) <;> exact State.respond_clockFiller s f _ _

theorem exec_scan_outside (hk : s.resolveRef f = none) (hf : formOk 0x21 f = true) (h : f.byteAt f.refBytes ≤ 3) :
    exec (.scan f) s = .next (s.answered f .outOfGrid .none) := by
  refine (takeRequest_content hr hf).trans (congrArg _ ?_)
  rw [State.requestScan, if_neg (Nat.not_lt.mpr h), State.awaitCell_none hk]

theorem exec_seed_outside (hk : s.resolveRef f = none) (hf : formOk 0x23 f = true)
    (h : f.byteAt (f.refBytes + 2) ≤ 63) : exec (.seed f) s = .next (s.answered f .outOfGrid .none) := by
  refine (takeRequest_content hr hf).trans (congrArg _ ?_)
  rw [State.requestSeed, channelOf_eq (Nat.lt_succ_of_le h)]
  exact State.awaitCell_none hk

theorem exec_mark_outside (hk : s.resolveRef f = none) (hf : formOk 0x24 f = true) (h1 : f.byteAt f.refBytes % 4 ≠ 3)
    (h2 : f.byteAt f.refBytes / 4 % 4 ≠ 3) : exec (.mark f) s = .next (s.answered f .outOfGrid .none) := by
  obtain ⟨muted, hm, -⟩ := markAction_apply h1
  obtain ⟨pinned, hp, -⟩ := markAction_apply h2
  refine (takeRequest_content hr hf).trans (congrArg _ ?_)
  rw [State.requestMark, hm, hp]
  exact State.awaitCell_none hk

end

/-- Settles O52. -/
theorem framesTurnedAway : Obligations.FramesTurnedAway := by
  intro s hs
  refine ⟨fun c bytes he hread hwf hbusy => ?busy, fun hr => ⟨fun c code f he hread hunknown hf => ?form,
    fun code rest => ?unknown, fun f => ⟨exec_scan_badGrade hr, exec_seed_badHome hr, exec_mark_badAction hr, fun hk =>
      ⟨fun hf => ?lookup, exec_scan_outside hr hk, exec_seed_outside hr hk, exec_mark_outside hr hk,
        fun hf => ?clearStats, fun hf => ?retire⟩⟩⟩⟩
  case busy =>
    by_cases hunknown : ∃ b, c = .unknownRequestCode b
    · obtain ⟨b, rfl⟩ := hunknown
      cases he
      cases bytes with
      | nil => cases hwf
      | cons code rest =>
        rw [exec_unknown hs, if_pos hbusy]
        rfl
    · obtain ⟨code, f, content, rfl, hexec⟩ := exec_request he hread (not_exists.mp hunknown)
      rw [hexec, takeRequest_busy hs hbusy, frameBytes_length]
      rfl
  case form =>
    obtain ⟨code', f', content, hbytes, hexec⟩ := exec_request he hread hunknown
    obtain ⟨rfl, rfl⟩ := frameBytes_inj hbytes
    rw [hexec, takeRequest_form hr hf]
  case unknown =>
    obtain ⟨-, hrequest, hresponse⟩ := State.portReady_iff.mp hr
    have hfree : s.portBusy ≠ true := by simp [State.portBusy, hrequest, hresponse]
    rw [exec_unknown hs, if_neg hfree, State.respond_eq, ← hrequest]
    rfl
  case lookup => exact (takeRequest_content hr hf).trans (congrArg _ (State.awaitCell_none hk))
  case clearStats => exact (takeRequest_content hr hf).trans (congrArg _ (State.awaitCell_none hk))
  case retire => exact (takeRequest_content hr hf).trans (congrArg _ (State.awaitCell_none hk))

end Sys2Proof.Machine
end

section
/-! The statement about the bytes of responses and the frames that read them (11.1, 12.2, 12.3). -/

namespace Sys2Proof.Machine

/-! ### Numbers as bytes -/

@[simp] theorem natToBytes_length (count n : Nat) : (natToBytes count n).length = count := by
  induction count generalizing n with
  | zero => rfl
  | succ count ih => rw [natToBytes, List.length_cons, ih]

theorem bytesToNat_natToBytes (count n : Nat) : bytesToNat (natToBytes count n) = n % 256 ^ count := by
  induction count generalizing n with
  | zero => simp [natToBytes, bytesToNat, Nat.mod_one]
  | succ count ih =>
    rw [natToBytes, bytesToNat, ih, Nat.pow_succ', Nat.mod_mul]
    rfl

/-! ### Fields -/

theorem fieldAt_append_left {a : List Byte} {offset count : Nat} (h : offset + count ≤ a.length) (b : List Byte) :
    fieldAt (a ++ b) offset count = fieldAt a offset count := by
  have hdrop : offset ≤ a.length := by omega
  have htake : count ≤ (a.drop offset).length := by
    rw [List.length_drop]
    omega
  rw [fieldAt, fieldAt, List.drop_append_of_le_length hdrop, List.take_append_of_le_length htake]

theorem fieldAt_append_right (a b : List Byte) (offset count : Nat) :
    fieldAt (a ++ b) (a.length + offset) count = fieldAt b offset count := by
  rw [fieldAt, fieldAt, List.drop_length_add_append]

/-- Bytes that are laid out field by field, each field with its count of bytes and its value. -/
def layoutBytes (fields : List (Nat × Nat)) : List Byte := fields.flatMap fun f => natToBytes f.1 f.2

theorem layoutBytes_length (fields : List (Nat × Nat)) : (layoutBytes fields).length = (fields.map (·.1)).sum := by
  induction fields with
  | nil => rfl
  | cons f fields ih => simp [layoutBytes]

/-- A field stands after the bytes of those before it. -/
theorem fieldAt_layoutBytes {fields : List (Nat × Nat)} {k count v : Nat} (h : fields[k]? = some (count, v)) :
    fieldAt (layoutBytes fields) ((fields.take k).map (·.1)).sum count = v % 256 ^ count := by
  induction fields generalizing k with
  | nil => simp at h
  | cons f fields ih =>
    have hcons : layoutBytes (f :: fields) = natToBytes f.1 f.2 ++ layoutBytes fields := rfl
    rw [hcons]
    cases k with
    | zero =>
      obtain rfl : f = (count, v) := by simpa using h
      rw [fieldAt_append_left (by simp)]
      simp [fieldAt, List.take_of_length_le, bytesToNat_natToBytes]
    | succ k =>
      have hoffset : (((f :: fields).take (k + 1)).map (·.1)).sum =
          (natToBytes f.1 f.2).length + ((fields.take k).map (·.1)).sum := by simp
      rw [hoffset, fieldAt_append_right]
      exact ih (by simpa using h)

/-- The same, with the counts of the fields, the offset and the range of the field given as numbers. -/
theorem fieldAt_layout {b : List Byte} {fields : List (Nat × Nat)} {counts : List Nat} (hb : b = layoutBytes fields)
    (hcounts : fields.map (·.1) = counts) {k count v offset range : Nat} (h : fields[k]? = some (count, v))
    (hoffset : (counts.take k).sum = offset) (hrange : 256 ^ count = range) : fieldAt b offset count = v % range := by
  rw [hb, ← hoffset, ← hrange, ← hcounts, ← List.map_take]
  exact fieldAt_layoutBytes h

/-! ### Flags and channels -/

theorem flagsByte_lt (l : List Bool) : flagsByte l < 2 ^ l.length := by
  induction l with
  | nil => simp [flagsByte]
  | cons b l ih =>
    have := b.toNat_lt
    rw [flagsByte, List.length_cons, Nat.pow_succ]
    omega

/-- Up to 8 flags fill one byte. -/
theorem flagsByte_mod {l : List Bool} (h : l.length ≤ 8) : flagsByte l % 256 = flagsByte l :=
  Nat.mod_eq_of_lt (Nat.lt_of_lt_of_le (flagsByte_lt l) (Nat.pow_le_pow_right (by omega) h : 2 ^ l.length ≤ 2 ^ 8))

/-- The byte at a place of the channel list, 0xFF beyond the count (R194). -/
def channelPlace (cs : List Channel) (i : Nat) : Nat :=
  match cs[i]? with
  | some c => c.val
  | none => 255

theorem channelPlace_mod (cs : List Channel) (i : Nat) : channelPlace cs i % 256 = channelPlace cs i := by
  unfold channelPlace
  split <;> omega

theorem channelBytes_eq (cs : List Channel) : channelBytes cs =
    layoutBytes [(1, channelPlace cs 0), (1, channelPlace cs 1), (1, channelPlace cs 2), (1, channelPlace cs 3)] := by
  rcases cs with _ | ⟨a, _ | ⟨b, _ | ⟨c, _ | ⟨d, rest⟩⟩⟩⟩ <;> rfl

/-! ### Records -/

/-- The fields of a record in a response (Table 12-9). -/
def SourceRecord.fields (r : SourceRecord) : List (Nat × Nat) :=
  [(1, r.key.axial), (1, r.key.circ), (1, flagsByte [r.tracked, r.muted, r.pinned, r.seeded, r.report]),
    (1, flagsByte [r.label.isSome, r.firstTime.isSome, r.lastTime.isSome, r.firstPressure.isSome,
      r.onsetPressure.isSome, r.felicity.isSome]),
    (2, r.label.getD 0), (1, r.channels.length), (1, channelPlace r.channels 0), (1, channelPlace r.channels 1),
    (1, channelPlace r.channels 2), (1, channelPlace r.channels 3), (3, r.events), (3, r.fulls), (4, r.energySum),
    (1, r.peakAmplitude), (2, r.highAmps), (6, r.firstTime.getD 0), (6, r.lastTime.getD 0),
    (2, r.firstPressure.getD 0), (2, r.onsetCycle), (2, r.onsetPressure.getD 0), (2, r.felicity.getD 0),
    (2, r.holdSeen), (1, r.holdCurrent), (2, r.holdTotal), (2, r.activity), (2, r.sinceSweep), (1, r.idleSweeps),
    (1, flagsByte [r.met.felicity, r.met.hold, r.met.activity, r.met.intensity]), (1, r.grade)]

/-- How many bytes each field of a record takes (Table 12-9). -/
def recordCounts : List Nat :=
  [1, 1, 1, 1, 2, 1, 1, 1, 1, 1, 3, 3, 4, 1, 2, 6, 6, 2, 2, 2, 2, 2, 1, 2, 2, 2, 1, 1, 1]

theorem SourceRecord.fields_counts (r : SourceRecord) : r.fields.map (·.1) = recordCounts := rfl

theorem SourceRecord.encode_eq (r : SourceRecord) : r.encode = layoutBytes r.fields := by
  unfold SourceRecord.encode SourceRecord.fields oneByte optionalBytes
  rw [channelBytes_eq]
  simp only [layoutBytes, List.flatMap_cons, List.flatMap_nil, List.append_nil, List.append_assoc]

theorem SourceRecord.encode_length (r : SourceRecord) : r.encode.length = 56 := by
  rw [r.encode_eq, layoutBytes_length, r.fields_counts]
  rfl

/-- The bytes of a record are laid out as Table 12-9 says. -/
theorem SourceRecord.encode_layout (r : SourceRecord) : RecordLayout r r.encode := by
  have hfield {k count v offset range : Nat} (h : r.fields[k]? = some (count, v))
      (hoffset : (recordCounts.take k).sum = offset) (hrange : 256 ^ count = range) :
      fieldAt r.encode offset count = v % range :=
    fieldAt_layout r.encode_eq r.fields_counts h hoffset hrange
  exact {
    size := r.encode_length
    axial := hfield (k := 0) rfl rfl rfl
    circ := hfield (k := 1) rfl rfl rfl
    flags := by
      refine (hfield (k := 2) rfl rfl rfl).trans ((flagsByte_mod (by simp)).trans ?_)
      simp only [flagsByte]
      omega
    presence := by
      refine (hfield (k := 3) rfl rfl rfl).trans ((flagsByte_mod (by simp)).trans ?_)
      simp only [flagsByte]
      omega
    label := hfield (k := 4) rfl rfl rfl
    channelCount := (hfield (k := 5) rfl rfl rfl).trans (congrArg (· % 256) (Nat.add_comm _ 1))
    channels := fun i hi => by
      have hplace : fieldAt r.encode (7 + i) 1 = channelPlace r.channels i % 256 := by
        match i, hi with
        | 0, _ => exact hfield (k := 6) rfl rfl rfl
        | 1, _ => exact hfield (k := 7) rfl rfl rfl
        | 2, _ => exact hfield (k := 8) rfl rfl rfl
        | 3, _ => exact hfield (k := 9) rfl rfl rfl
      rw [hplace, channelPlace_mod]
      rfl
    events := hfield (k := 10) rfl rfl rfl
    fulls := hfield (k := 11) rfl rfl rfl
    energySum := hfield (k := 12) rfl rfl rfl
    peakAmplitude := hfield (k := 13) rfl rfl rfl
    highAmps := hfield (k := 14) rfl rfl rfl
    firstTime := hfield (k := 15) rfl rfl rfl
    lastTime := hfield (k := 16) rfl rfl rfl
    firstPressure := hfield (k := 17) rfl rfl rfl
    onsetCycle := hfield (k := 18) rfl rfl rfl
    onsetPressure := hfield (k := 19) rfl rfl rfl
    felicity := hfield (k := 20) rfl rfl rfl
    holdSeen := hfield (k := 21) rfl rfl rfl
    holdCurrent := hfield (k := 22) rfl rfl rfl
    holdTotal := hfield (k := 23) rfl rfl rfl
    activity := hfield (k := 24) rfl rfl rfl
    sinceSweep := hfield (k := 25) rfl rfl rfl
    idleSweeps := hfield (k := 26) rfl rfl rfl
    met := by
      refine (hfield (k := 27) rfl rfl rfl).trans ((flagsByte_mod (by simp)).trans ?_)
      simp only [flagsByte]
      omega
    grade := hfield (k := 28) rfl rfl rfl }

/-- Record `i` of records sent one after another. -/
theorem flatMap_encode_block {rs : List SourceRecord} {i : Nat} (h : i < rs.length) :
    ((rs.flatMap SourceRecord.encode).drop (56 * i)).take 56 = rs[i].encode := by
  induction rs generalizing i with
  | nil => simp at h
  | cons r rs ih =>
    rw [List.flatMap_cons]
    cases i with
    | zero => simp [← r.encode_length]
    | succ i =>
      have hoffset : 56 * (i + 1) = r.encode.length + 56 * i := by
        rw [r.encode_length]
        omega
      rw [hoffset, List.drop_length_add_append]
      exact ih (Nat.lt_of_succ_lt_succ h)

theorem flatMap_encode_length (rs : List SourceRecord) : (rs.flatMap SourceRecord.encode).length = 56 * rs.length := by
  induction rs with
  | nil => rfl
  | cons r rs ih =>
    rw [List.flatMap_cons, List.length_append, ih, r.encode_length, List.length_cons]
    omega

/-- The records of an answer, after the bytes ahead of them. -/
theorem records_layout {head : List Byte} {size : Nat} (hsize : head.length = size) (rs : List SourceRecord) (i : Nat)
    (h : i < rs.length) :
    RecordLayout rs[i] (((head ++ rs.flatMap SourceRecord.encode).drop (size + 56 * i)).take 56) := by
  rw [← hsize, List.drop_length_add_append, flatMap_encode_block h]
  exact rs[i].encode_layout

/-! ### STATUS -/

/-- The fields of a STATUS payload (Table 12-10). -/
def StatusReport.fields (r : StatusReport) : List (Nat × Nat) :=
  [(1, r.run.code), (1, flavourCode r.flavour), (1, r.laneA.code), (1, r.laneB.code),
    (1, flagsByte [r.cutoff.isSome, r.pressure.isSome, r.locked]), (6, r.cutoff.getD 0), (1, r.phase.code),
    (2, r.pressure.getD 0), (2, r.cycle), (2, r.liveCount), (2, r.reportCount), (1, r.backlog), (1, r.queueDepth),
    (1, r.latches.code)]

theorem StatusReport.encode_eq (r : StatusReport) : r.encode = layoutBytes r.fields := by
  unfold StatusReport.encode StatusReport.fields oneByte optionalBytes
  simp only [layoutBytes, List.flatMap_cons, List.flatMap_nil, List.append_nil, List.append_assoc]

/-- The bytes of a STATUS payload are laid out as Table 12-10 says. -/
theorem StatusReport.encode_layout (r : StatusReport) : StatusLayout r r.encode := by
  have hfield {k count v offset range : Nat} (h : r.fields[k]? = some (count, v))
      (hoffset : (([1, 1, 1, 1, 1, 6, 1, 2, 2, 2, 2, 1, 1, 1] : List Nat).take k).sum = offset)
      (hrange : 256 ^ count = range) : fieldAt r.encode offset count = v % range :=
    fieldAt_layout r.encode_eq rfl h hoffset hrange
  exact {
    size := by
      rw [r.encode_eq, layoutBytes_length]
      rfl
    run := (hfield (k := 0) rfl rfl rfl).trans (by cases r.run <;> rfl)
    flavour := (hfield (k := 1) rfl rfl rfl).trans (by rcases r.flavour with _ | _ | _ <;> rfl)
    lanes := fun l => by
      cases l
      · exact (hfield (k := 2) rfl rfl rfl).trans (by cases r.laneA <;> rfl)
      · exact (hfield (k := 3) rfl rfl rfl).trans (by cases r.laneB <;> rfl)
    presence := by
      refine (hfield (k := 4) rfl rfl rfl).trans ((flagsByte_mod (by simp)).trans ?_)
      simp only [flagsByte]
      omega
    cutoff := hfield (k := 5) rfl rfl rfl
    phase := (hfield (k := 6) rfl rfl rfl).trans (by cases r.phase <;> rfl)
    pressure := hfield (k := 7) rfl rfl rfl
    cycle := hfield (k := 8) rfl rfl rfl
    liveCount := hfield (k := 9) rfl rfl rfl
    reportCount := hfield (k := 10) rfl rfl rfl
    backlog := hfield (k := 11) rfl rfl rfl
    queueDepth := hfield (k := 12) rfl rfl rfl
    latches := by
      refine (hfield (k := 13) rfl rfl rfl).trans ((flagsByte_mod (by simp)).trans ?_)
      simp only [flagsByte]
      omega }

/-! ### Payloads and responses -/

theorem counters_layout (values : List Nat) (i : Nat) (h : i < values.length) :
    fieldAt (values.flatMap (natToBytes 2)) (2 * i) 2 = values[i] % 2 ^ 16 := by
  have hlayout : values.flatMap (natToBytes 2) = layoutBytes (values.map fun v => (2, v)) := by
    rw [layoutBytes, List.flatMap_map]
  have hsum : ((List.replicate values.length 2).take i).sum = 2 * i := by
    rw [List.take_replicate, List.sum_replicate_nat, Nat.min_eq_left (Nat.le_of_lt h), Nat.mul_comm]
  refine fieldAt_layout hlayout ?_ (k := i) (by simp [h]) hsum rfl
  rw [List.map_map]
  exact List.map_const'

/-- The bytes of a payload are laid out as Table 12-8 says. -/
theorem Payload.encode_layout (p : Payload) : PayloadLayout p p.encode := by
  cases p with
  | none => rfl
  | status r => exact r.encode_layout
  | counters values =>
    refine ⟨?_, counters_layout values⟩
    simp only [Payload.encode, List.length_flatMap, natToBytes_length, List.map_const', List.sum_replicate_nat,
      Nat.mul_comm]
  | config q v =>
    have hlayout : (Payload.config q v).encode = layoutBytes [(1, paramCode q), (2, v)] := by
      simp [Payload.encode, layoutBytes, oneByte]
    refine ⟨by rw [hlayout, layoutBytes_length]; rfl,
      (fieldAt_layout hlayout rfl (k := 0) rfl rfl rfl).trans (Nat.mod_eq_of_lt (paramCode_lt q)),
      fieldAt_layout hlayout rfl (k := 1) rfl rfl rfl⟩
  | sensor c e fault =>
    have hlayout : (Payload.sensor c e fault).encode = layoutBytes [(1, c.val), (1, e.ring.val), (1, e.column.val),
        (1, flagsByte [e.enabled, fault.faulted]), (1, fault.code.toNat)] := by
      simp [Payload.encode, layoutBytes, oneByte, natToBytes]
    have hring := e.ring.isLt
    have hcolumn := e.column.isLt
    refine ⟨by rw [hlayout, layoutBytes_length]; rfl,
      (fieldAt_layout hlayout rfl (k := 0) rfl rfl rfl).trans (Nat.mod_eq_of_lt (by omega)),
      (fieldAt_layout hlayout rfl (k := 1) rfl rfl rfl).trans (Nat.mod_eq_of_lt (by omega)),
      (fieldAt_layout hlayout rfl (k := 2) rfl rfl rfl).trans (Nat.mod_eq_of_lt (by omega)),
      (fieldAt_layout hlayout rfl (k := 3) rfl rfl rfl).trans (flagsByte_mod (by simp)),
      (fieldAt_layout hlayout rfl (k := 4) rfl rfl rfl).trans (Nat.mod_eq_of_lt fault.code.isLt)⟩
  | view k =>
    have hlayout : (Payload.view k).encode = layoutBytes [(1, k.axial), (1, k.circ)] := by
      simp [Payload.encode, CellKey.encode, layoutBytes, oneByte]
    exact ⟨by rw [hlayout, layoutBytes_length]; rfl, fieldAt_layout hlayout rfl (k := 0) rfl rfl rfl,
      fieldAt_layout hlayout rfl (k := 1) rfl rfl rfl⟩
  | record r => exact r.encode_layout
  | scan rs more next =>
    obtain ⟨head, hhead⟩ : ∃ head, head = layoutBytes [(1, rs.length), (1, flagsByte [more, next.isSome]),
        (1, (next.map CellKey.axial).getD 0), (1, (next.map CellKey.circ).getD 0)] := ⟨_, rfl⟩
    have hencode : (Payload.scan rs more next).encode = head ++ rs.flatMap SourceRecord.encode := by
      rw [hhead]
      simp [Payload.encode, continuationBytes, layoutBytes, oneByte, optionalBytes]
    have hsize : head.length = 4 := by rw [hhead, layoutBytes_length]; rfl
    rw [hencode]
    refine ⟨by rw [List.length_append, hsize, flatMap_encode_length], ?_, ?_, ?_, ?_, records_layout hsize rs⟩
    · rw [fieldAt_append_left (by omega)]
      exact fieldAt_layout hhead rfl (k := 0) rfl rfl rfl
    · rw [fieldAt_append_left (by omega)]
      exact (fieldAt_layout hhead rfl (k := 1) rfl rfl rfl).trans (flagsByte_mod (by simp))
    · rw [fieldAt_append_left (by omega)]
      exact fieldAt_layout hhead rfl (k := 2) rfl rfl rfl
    · rw [fieldAt_append_left (by omega)]
      exact fieldAt_layout hhead rfl (k := 3) rfl rfl rfl
  | changes rs more =>
    obtain ⟨head, hhead⟩ : ∃ head, head = layoutBytes [(1, rs.length), (1, flagsByte [more])] := ⟨_, rfl⟩
    have hencode : (Payload.changes rs more).encode = head ++ rs.flatMap SourceRecord.encode := by
      rw [hhead]
      simp [Payload.encode, layoutBytes, oneByte]
    have hsize : head.length = 2 := by rw [hhead, layoutBytes_length]; rfl
    rw [hencode]
    refine ⟨by rw [List.length_append, hsize, flatMap_encode_length], ?_, ?_, records_layout hsize rs⟩
    · rw [fieldAt_append_left (by omega)]
      exact fieldAt_layout hhead rfl (k := 0) rfl rfl rfl
    · rw [fieldAt_append_left (by omega)]
      exact (fieldAt_layout hhead rfl (k := 1) rfl rfl rfl).trans (flagsByte_mod (by simp))

/-- The bytes of a response are laid out as Tables 12-4 and 12-6 say. -/
theorem Response.encode_layout (r : Response) (collided : Bool) : ResponseLayout r collided (r.encode collided) := by
  obtain ⟨head, hhead⟩ : ∃ head, head = layoutBytes [(1, r.status.code), (1, flagsByte [r.lockLost, collided]),
      (2, r.payload.encode.length)] := ⟨_, rfl⟩
  have hencode : r.encode collided = head ++ r.payload.encode := by
    rw [hhead]
    simp [Response.encode, layoutBytes, oneByte]
  have hsize : head.length = 4 := by rw [hhead, layoutBytes_length]; rfl
  have hpayload : (r.encode collided).drop 4 = r.payload.encode := by rw [hencode, ← hsize, List.drop_left]
  rw [ResponseLayout, hpayload, hencode]
  refine ⟨by simp [hsize], ?_, ?_, ?_, r.payload.encode_layout⟩
  · rw [fieldAt_append_left (by omega)]
    exact (fieldAt_layout hhead rfl (k := 0) rfl rfl rfl).trans (by cases r.status <;> rfl)
  · rw [fieldAt_append_left (by omega)]
    exact (fieldAt_layout hhead rfl (k := 1) rfl rfl rfl).trans (flagsByte_mod (by simp))
  · rw [fieldAt_append_left (by omega)]
    exact fieldAt_layout hhead rfl (k := 2) rfl rfl rfl

/-! ### Read frames -/

theorem readBytes_complete {n : Nat} {bytes : List Byte} (h : bytes.length + 1 ≤ n) :
    readBytes n bytes = 0xFF :: bytes ++ List.replicate (n - 1 - bytes.length) 0xFF := by
  rw [readBytes, List.take_append, List.take_of_length_le h, List.take_replicate, List.length_cons]
  congr 2
  omega

theorem readBytes_short {n : Nat} {bytes : List Byte} (h : n < bytes.length + 1) :
    readBytes n bytes = (0xFF :: bytes).take n := by
  rw [readBytes, List.take_append_of_le_length (Nat.le_of_lt h)]

/-- Settles O51. -/
theorem responseRead : Obligations.ResponseRead := by
  intro read s hs n
  have hexec : exec (.responseRead read) s = .next (s.readResponse n read.overtaken) :=
    afterGrant_steady (·.readResponse read.bytes read.overtaken) hs
  rw [hexec]
  refine ⟨by simp [State.ready, Option.isSome_iff_ne_none], fun h0 => ?_, fun hn hnone => ?_, fun r hn hsome =>
    ⟨r.encode s.port.collision, r.encode_layout _, fun hlong => ?_, fun hshort => ?_⟩, rfl⟩
  · rw [State.readResponse, if_pos h0]
  · rw [State.readResponse, if_neg (by omega), hnone]
    rfl
  · rw [State.readResponse, if_neg (by omega), hsome]
    dsimp only
    rw [if_pos hlong, readBytes_complete hlong]
    rfl
  · rw [State.readResponse, if_neg (by omega), hsome]
    dsimp only
    rw [if_neg (Nat.not_le.mpr hshort), readBytes_short hshort]
    rfl

end Sys2Proof.Machine
end

section
/-! The statements about decoding and encoding: SPI frames, their bits, and the characters of a line (1.2, 11.1, 12.1,
12.2). -/

namespace Sys2Proof.Machine

/-! ### Bits of a byte and of a character -/

theorem toNat_getLsbD {w : Nat} (x : BitVec w) (i : Nat) : (x.getLsbD i).toNat = x.toNat / 2 ^ i % 2 := by
  rw [BitVec.getLsbD, Nat.testBit_eq_decide_div_mod_eq, toNat_decide]
  split <;> omega

theorem sum_of_byte_bits {n : Nat} (h : n < 256) :
    128 * (n / 2 ^ 7 % 2) + 64 * (n / 2 ^ 6 % 2) + 32 * (n / 2 ^ 5 % 2) + 16 * (n / 2 ^ 4 % 2) +
      8 * (n / 2 ^ 3 % 2) + 4 * (n / 2 ^ 2 % 2) + 2 * (n / 2 ^ 1 % 2) + n / 2 ^ 0 % 2 = n := by
  omega

/-- The eight bits of a byte, most significant first, give the byte (R192). -/
theorem ofNat_byteBits (b : Byte) : BitVec.ofNat 8
    (128 * (b.getLsbD 7).toNat + 64 * (b.getLsbD 6).toNat + 32 * (b.getLsbD 5).toNat + 16 * (b.getLsbD 4).toNat +
      8 * (b.getLsbD 3).toNat + 4 * (b.getLsbD 2).toNat + 2 * (b.getLsbD 1).toNat + (b.getLsbD 0).toNat) = b := by
  simp only [toNat_getLsbD, sum_of_byte_bits b.isLt, BitVec.ofNat_toNat, BitVec.setWidth_eq]

/-- The bits of a character after its start bit of 0 give the character (R4, R191). -/
theorem ofNat_characterBits {ch : Character} (h : ch.getLsbD 0 = false) : BitVec.ofNat 12
    (2 * (ch.getLsbD 1).toNat + 4 * (ch.getLsbD 2).toNat + 8 * (ch.getLsbD 3).toNat + 16 * (ch.getLsbD 4).toNat +
      32 * (ch.getLsbD 5).toNat + 64 * (ch.getLsbD 6).toNat + 128 * (ch.getLsbD 7).toNat +
      256 * (ch.getLsbD 8).toNat + 512 * (ch.getLsbD 9).toNat + 1024 * (ch.getLsbD 10).toNat +
      2048 * (ch.getLsbD 11).toNat) = ch := by
  have hch := ch.isLt
  have h0 : ch.toNat % 2 = 0 := by
    have := toNat_getLsbD ch 0
    rw [h] at this
    simpa using this.symm
  apply BitVec.eq_of_toNat_eq
  simp only [BitVec.toNat_ofNat, toNat_getLsbD]
  omega

theorem bytesOfBits_short {tail : List Bool} (h : tail.length < 8) : bytesOfBits tail = [] := by
  unfold bytesOfBits
  split
  · simp only [List.length_cons] at h
    omega
  · rfl

/-- The bytes of bits clocked byte by byte, with fewer than 8 bits after the last byte (R192). -/
theorem bytesOfBits_flatMap (bytes : List Byte) {tail : List Bool} (h : tail.length < 8) :
    bytesOfBits ((bytes.flatMap fun b => (List.range 8).map fun j => b.getLsbD (7 - j)) ++ tail) = bytes := by
  induction bytes with
  | nil =>
    rw [List.flatMap_nil, List.nil_append, bytesOfBits_short h]
  | cons b bytes ih =>
    have hbits (rest : List Bool) : bytesOfBits (((List.range 8).map fun j => b.getLsbD (7 - j)) ++ rest) =
        b :: bytesOfBits rest := congrArg (· :: bytesOfBits rest) (ofNat_byteBits b)
    rw [List.flatMap_cons, List.append_assoc, hbits, ih]

/-! ### The characters of a line -/

theorem lineCharacters_idle (n : Nat) (rest : List Bool) :
    lineCharacters (List.replicate n true ++ rest) = lineCharacters rest := by
  induction n with
  | zero => rfl
  | succ n ih =>
    rw [List.replicate_succ, List.cons_append, lineCharacters, ih]

/-- The 12 bits of a character on the line deliver it (R4). -/
theorem lineCharacters_character {ch : Character} (h : ch.getLsbD 0 = false) (rest : List Bool) :
    lineCharacters (((List.range 12).map fun j => ch.getLsbD j) ++ rest) = ch :: lineCharacters rest := by
  have hbits : ((List.range 12).map fun j => ch.getLsbD j) =
      false :: (List.range 11).map fun j => ch.getLsbD (j + 1) := by
    rw [← h]
    rfl
  rw [hbits]
  exact congrArg (· :: lineCharacters rest) (ofNat_characterBits h)

/-- A line delivers exactly its characters, whatever stands at 1 between them (R4, R191). -/
theorem lineCharacters_line (line : List (Nat × Character)) (after : Nat)
    (h : ∀ e ∈ line, e.2.getLsbD 0 = false) :
    lineCharacters ((line.flatMap fun e =>
        List.replicate e.1 true ++ (List.range 12).map fun j => e.2.getLsbD j) ++
      List.replicate after true) = line.map (·.2) := by
  induction line with
  | nil =>
    have hidle := lineCharacters_idle after []
    rwa [List.append_nil] at hidle
  | cons e line ih =>
    obtain ⟨he, hline⟩ := List.forall_mem_cons.mp h
    rw [List.flatMap_cons, List.append_assoc, List.append_assoc, lineCharacters_idle, lineCharacters_character he,
      ih hline, List.map_cons]

/-! ### Frames -/

/-- The code of a request frame is decoded exactly where it has a length (Table 12-5). -/
theorem decodeRequest_eq_none_iff (n : Nat) (f : Frame) (long : Bool) :
    decodeRequest n f = none ↔ requestLength n long = none := by
  unfold decodeRequest requestLength
  dsimp only
  split <;> simp

theorem decodeFrame_frameBytes {code : Byte} {f : Frame} {i : Instr} (hc : code ≠ Config.readCode)
    (h : decodeRequest code.toNat f = some i) : decodeFrame (frameBytes code f) = some i := by
  rw [frameBytes, decodeFrame, if_neg hc, h]
  rfl

theorem decodeFrame_read (rest : List Byte) :
    decodeFrame (Config.readCode :: rest) = some (.responseRead { bytes := rest.length + 1, overtaken := false }) :=
  rfl

/-- A frame with a code other than the read code, which has no whole header or no request code, is an unknown one
(R176). -/
theorem decodeFrame_unknown {code : Byte} {rest : List Byte} (hc : code ≠ Config.readCode)
    (h : rest.length < 2 ∨ requestLength code.toNat true = none) :
    decodeFrame (code :: rest) = some (.unknownRequestCode (code :: rest)) := by
  match rest with
  | [] | [_] => exact if_neg hc
  | flags :: length :: payload =>
    have hnone : requestLength code.toNat true = none :=
      h.resolve_left (by simp only [List.length_cons]; omega)
    rw [decodeFrame, if_neg hc, (decodeRequest_eq_none_iff ..).mpr hnone, Option.getD_none]

/-! ### The rows of CONFIG WRITE -/

theorem formOk_config_iff (f : Frame) : formOk 0x04 f = true ↔ f.length = 3 ∧ f.payload.length = 3 := by
  have hlen : f.length.toNat = (3 : Byte).toNat ↔ f.length = 3 := BitVec.toNat_eq.symm
  rw [formOk, Bool.and_eq_true, beq_iff_eq, beq_iff_eq, requestLength, Option.some.injEq]
  constructor
  · rintro ⟨hlength, hpayload⟩
    exact ⟨hlen.mp (hlength.trans hpayload.symm), hpayload.symm⟩
  · rintro ⟨hlength, hpayload⟩
    exact ⟨(hlen.mpr hlength).trans hpayload.symm, hpayload.symm⟩

theorem natToBytes_bytesToNat_pair (low high : Byte) :
    natToBytes 2 (BitVec.ofNat 16 (bytesToNat [low, high])).toNat = [low, high] := by
  have hlow := low.isLt
  have hhigh := high.isLt
  rw [bytesToNat_pair, BitVec.toNat_ofNat, Nat.mod_eq_of_lt (by omega)]
  simp only [natToBytes, List.cons.injEq, and_true]
  constructor <;>
  · apply BitVec.eq_of_toNat_eq
    rw [BitVec.toNat_ofNat]
    omega

/-- A CONFIG WRITE frame of the right form for a parameter is the frame of a write of it (Table 12-5). -/
theorem configFrame_eq {f : Frame} {q : Param} (hf : formOk 0x04 f = true) (hq : paramOfCode (f.byteAt 0) = some q) :
    configFrame f.flags q (BitVec.ofNat 16 (bytesToNat (f.payload.drop 1))) = f := by
  obtain ⟨flags, length, payload⟩ := f
  obtain ⟨rfl, hpayload⟩ : length = 3 ∧ payload.length = 3 := (formOk_config_iff _).mp hf
  obtain ⟨a, b, c, rfl⟩ : ∃ a b c, payload = [a, b, c] := by
    match payload, hpayload with
    | [a, b, c], _ => exact ⟨a, b, c, rfl⟩
  have hcode : BitVec.ofNat 8 (paramCode q) = a := by
    rw [paramCode_of_paramOfCode hq]
    exact (BitVec.ofNat_toNat 8 a).trans (BitVec.setWidth_eq a)
  rw [configFrame, hcode]
  exact congrArg (Frame.mk flags 3 <| a :: ·) (natToBytes_bytesToNat_pair b c)

theorem byteAt_configFrame (flags : Byte) (q : Param) (v : BitVec 16) :
    (configFrame flags q v).byteAt 0 = paramCode q := Nat.mod_eq_of_lt (paramCode_lt q)

theorem value_configFrame (flags : Byte) (q : Param) (v : BitVec 16) :
    BitVec.ofNat 16 (bytesToNat ((configFrame flags q v).payload.drop 1)) = v := by
  apply BitVec.eq_of_toNat_eq
  rw [configFrame, List.drop_one, List.tail_cons, bytesToNat_natToBytes, BitVec.toNat_ofNat]
  omega

/-- The row that a write of a parameter is decoded to. -/
def configRow (f : Frame) (value : BitVec 16) : Param → Instr
  | .geometry g => .geometryWrite f.flags g value
  | .sampleTimeout => .sampleTimeoutWrite f.flags value
  | .lockLimit => .lockLimitWrite f.flags value
  | .annEnable => .annEnableWrite f.flags value
  | _ => .configWrite f

theorem decodeConfigWrite_param {f : Frame} {q : Param} (hf : formOk 0x04 f = true)
    (hq : paramOfCode (f.byteAt 0) = some q) :
    decodeConfigWrite f = configRow f (BitVec.ofNat 16 (bytesToNat (f.payload.drop 1))) q := by
  rw [decodeConfigWrite, if_pos hf, hq]
  cases q <;> rfl

theorem decodeConfigWrite_configFrame (flags : Byte) (q : Param) (v : BitVec 16) :
    decodeConfigWrite (configFrame flags q v) = configRow (configFrame flags q v) v q := by
  rw [decodeConfigWrite_param (formOk_configFrame flags q v) (byteAt_configFrame flags q v ▸ paramOfCode_paramCode q),
    value_configFrame]

theorem decodeConfigWrite_other {f : Frame} (h : formOk 0x04 f = true → paramOfCode (f.byteAt 0) = none) :
    decodeConfigWrite f = .configWrite f := by
  rw [decodeConfigWrite]
  split
  · next hf => rw [h hf]
  · rfl

theorem ownWriteRow_other {f : Frame} (h : formOk 0x04 f = true → paramOfCode (f.byteAt 0) = none) :
    ownWriteRow f = false := by
  rw [ownWriteRow]
  cases hf : formOk 0x04 f with
  | false => rfl
  | true => rw [h hf]; rfl

/-- A CONFIG WRITE frame is of the right form for a parameter, or names none. -/
theorem config_param_or_other (f : Frame) : (∃ q, formOk 0x04 f = true ∧ paramOfCode (f.byteAt 0) = some q) ∨
    (formOk 0x04 f = true → paramOfCode (f.byteAt 0) = none) := by
  cases hq : paramOfCode (f.byteAt 0) with
  | none => exact .inr fun _ => rfl
  | some q =>
    cases hf : formOk 0x04 f with
    | false => exact .inr nofun
    | true => exact .inl ⟨q, rfl, rfl⟩

/-- A CONFIG WRITE that is of no row of its own is CONFIG_WRITE. -/
theorem decodeConfigWrite_of_not_ownWriteRow {f : Frame} (h : ownWriteRow f = false) :
    decodeConfigWrite f = .configWrite f := by
  obtain ⟨q, hf, hq⟩ | hother := config_param_or_other f
  · rw [ownWriteRow, hf, hq, Bool.true_and] at h
    rw [decodeConfigWrite_param hf hq]
    cases q with
    | geometry _ | sampleTimeout | lockLimit | annEnable => cases h
    | _ => rfl
  · exact decodeConfigWrite_other hother

theorem wellFormed_configRow {f : Frame} {q : Param} (hf : formOk 0x04 f = true)
    (hq : paramOfCode (f.byteAt 0) = some q) (v : BitVec 16) : (configRow f v q).WellFormed = true := by
  cases q with
  | geometry _ | sampleTimeout | lockLimit | annEnable => rfl
  | _ =>
    change (!ownWriteRow f) = true
    rw [ownWriteRow, hf, hq]
    rfl

theorem encodeFrame_configRow {f : Frame} {q : Param} {v : BitVec 16} (h : configFrame f.flags q v = f) :
    encodeFrame (configRow f v q) = some (frameBytes 0x04 f) := by
  cases q with
  | geometry _ | sampleTimeout | lockLimit | annEnable => exact congrArg (some <| frameBytes 0x04 ·) h
  | _ => rfl

/-- The row of a CONFIG WRITE frame is well formed, and its bytes are those of the frame. -/
theorem decodeConfigWrite_encodes (f : Frame) : (decodeConfigWrite f).WellFormed = true ∧
    encodeFrame (decodeConfigWrite f) = some (frameBytes 0x04 f) := by
  obtain ⟨q, hf, hq⟩ | hother := config_param_or_other f
  · rw [decodeConfigWrite_param hf hq]
    exact ⟨wellFormed_configRow hf hq _, encodeFrame_configRow (configFrame_eq hf hq)⟩
  · rw [decodeConfigWrite_other hother]
    exact ⟨congrArg Bool.not (ownWriteRow_other hother), rfl⟩

/-! ### O54: decode, then encode -/

/-- What a request frame is decoded to is well formed, and its bytes are those of the frame: its code is the code of
its row (Table 12-5). -/
theorem decodeRequest_encodes {n : Nat} {f : Frame} {i : Instr} (h : decodeRequest n f = some i) :
    i.WellFormed = true ∧ encodeFrame i = some (frameBytes (BitVec.ofNat 8 n) f) := by
  unfold decodeRequest at h
  split at h
  case h_4 =>
    obtain rfl := Option.some.inj h
    exact decodeConfigWrite_encodes f
  case h_21 => cases h
  all_goals
    obtain rfl := Option.some.inj h
    exact ⟨rfl, rfl⟩

/-- Settles O54, by the form of the frame: a read frame, a frame with no whole header, a request code, or none. -/
theorem encodeOfDecode : Obligations.EncodeOfDecode := by
  intro code rest
  by_cases hc : code = Config.readCode
  · subst hc
    have hbytes : decide (1 ≤ rest.length + 1) = true := decide_eq_true (Nat.le_add_left ..)
    exact ⟨_, decodeFrame_read rest, hbytes, fun h => absurd rfl h⟩
  have hunknown (h : rest.length < 2 ∨ requestLength code.toNat true = none) :
      (Instr.unknownRequestCode (code :: rest)).WellFormed = true := by
    simpa [Instr.WellFormed, hc] using h
  match rest with
  | [] | [_] =>
    exact ⟨_, decodeFrame_unknown hc (.inl (by simp)), hunknown (.inl (by simp)), fun _ => rfl⟩
  | flags :: length :: payload =>
    cases hrequest : decodeRequest code.toNat ⟨flags, length, payload⟩ with
    | none =>
      have hnone := (decodeRequest_eq_none_iff _ _ true).mp hrequest
      exact ⟨_, decodeFrame_unknown hc (.inr hnone), hunknown (.inr hnone), fun _ => rfl⟩
    | some i =>
      obtain ⟨hwf, hbytes⟩ := decodeRequest_encodes hrequest
      rw [BitVec.ofNat_toNat, BitVec.setWidth_eq] at hbytes
      exact ⟨i, decodeFrame_frameBytes hc hrequest, hwf, fun _ => hbytes⟩

/-! ### O53: encode, then decode -/

theorem decodeFrame_configFrame {flags : Byte} {q : Param} {v : BitVec 16} {i : Instr}
    (h : configRow (configFrame flags q v) v q = i) :
    decodeFrame (frameBytes 0x04 (configFrame flags q v)) = some i :=
  decodeFrame_frameBytes (by decide) (congrArg some ((decodeConfigWrite_configFrame flags q v).trans h))

/-- The bytes of a well-formed port command decode to it (R176, R192). -/
theorem decodeFrame_of_encodeFrame {i : Instr} {bytes : List Byte} (hi : i.WellFormed = true)
    (h : encodeFrame i = some bytes) : decodeFrame bytes = some i := by
  cases i with
  | responseRead r =>
    obtain ⟨count, overtaken⟩ := r
    have hcount : 1 ≤ count := of_decide_eq_true hi
    cases overtaken with
    | true => cases h
    | false =>
      obtain rfl := Option.some.inj h
      rw [decodeFrame_read, List.length_replicate, Nat.sub_add_cancel hcount]
  | unknownRequestCode received =>
    obtain rfl := Option.some.inj h
    match received with
    | [] => cases hi
    | code :: rest =>
      obtain ⟨hc, hform⟩ : code ≠ Config.readCode ∧ (rest.length < 2 ∨ requestLength code.toNat true = none) := by
        simpa [Instr.WellFormed] using hi
      exact decodeFrame_unknown hc hform
  | configWrite f =>
    obtain rfl := Option.some.inj h
    have hown : ownWriteRow f = false := by simpa [Instr.WellFormed] using hi
    exact decodeFrame_frameBytes (by decide) (congrArg some (decodeConfigWrite_of_not_ownWriteRow hown))
  | geometryWrite _ _ _ | sampleTimeoutWrite _ _ | lockLimitWrite _ _ | annEnableWrite _ _ =>
    obtain rfl := Option.some.inj h
    exact decodeFrame_configFrame rfl
  | status _ | counters _ | configRead _ | sensorRead _ | sensorWrite _ | start _ | stop _ | freeze _ | thaw _
  | engineReset _ | restartChannels _ | setView _ | lookup _ | scan _ | changes _ | seed _ | mark _ | clearStats _
  | retire _ =>
    obtain rfl := Option.some.inj h
    exact decodeFrame_frameBytes (by decide) rfl
  | _ => cases h

/-- Settles O53, by the row of the port command, and by what is received of a character. -/
theorem decodeOfEncode : Obligations.DecodeOfEncode := by
  refine ⟨fun i bytes hi h => ?_, lineCharacters_line, fun l ch => ⟨fun b hb => ?_, fun b hb => ?_, fun hf => ?_,
    fun h => ?_⟩⟩
  · have hbytes := decodeFrame_of_encodeFrame hi h
    refine ⟨hbytes, fun tail htail => ?_⟩
    rwa [decodeBits, bytesOfBits_flatMap bytes htail]
  all_goals rw [decodeHitCharacter, decodePlinCharacter]
  · rw [hb.receive]
    exact ⟨rfl, rfl⟩
  · rw [hb.receive]
    exact ⟨rfl, rfl⟩
  · rw [hf.receive]
    exact ⟨rfl, rfl⟩
  · rw [receive_idle h]
    exact ⟨rfl, rfl⟩

end Sys2Proof.Machine
end
